-- ==== Sys2Proof/Word.lean ====
section
/-!
DEFINITION. The widths and index ranges of the HB6408 (spec/00_scope.md, Conventions and Capacities; R189).
What the manual adds, shifts or masks as bits is a bit vector; an index is a `Fin`; a quantity that is only
counted or compared is a `Nat`; a sample, which the manual treats as a signed number, is an `Int`.
-/

namespace Sys2Proof

/-- One byte of a cell (R189). -/
abbrev Byte := BitVec 8

/-- A 16-bit quantity: period numbers (R6), tags (R165), notice numbers (R180). -/
abbrev Half := BitVec 16

/-- A counter: 32 bits, saturating (00_scope.md, Counters). -/
abbrev Counter := BitVec 32

/-- A port, 0..7. -/
abbrev Port := Fin 8

/-- A valid stream identifier, 0..1023. -/
abbrev StreamId := Fin 1024

/-- A combine group, 0..63. -/
abbrev GroupId := Fin 64

/-- A contributor slot, 0..7. -/
abbrev Slot := Fin 8

/-- A buffer of the pool. The index is the model's: buffers have no identity that software can see (R93). -/
abbrev BufId := Fin 384

/-- A slot of the response store (R166). -/
abbrev RespId := Fin 4

/-- A port list: the bit of value 2^p stands for port p (R189). -/
abbrev PortList := BitVec 8

/-- Samples at positions 0, 1, ..; each a signed number (00_scope.md, Samples). -/
abbrev Samples := List Int

/-- A cell: 64 bytes, header 0..11, payload 12..59, check 60..63 (R189). -/
abbrev Cell := Vector Byte 64

end Sys2Proof
end

