-- ==== Sys2Proof/Syntax.lean ====
section
/-!
DEFINITION. The commands of the HB6408: one constructor per row of spec/opcode_table.json. A command is one whole
event of the part (spec/95_what_each_step_holds.md). The table gives no bits and no fields; the operands are the
ones the rules name. Where a rule leaves the order of two actions inside one event open, the order is an operand
(notes/assumptions/3.md), so that whatever is proved holds for every order the rules allow.
-/

namespace Sys2Proof

/-- The actions that blocks take at one boundary or step and whose order matters to a queue they share (R7: "PT
places no order among them"; the order that single rules do give is `lawfulSchedule` in WellFormed.lean). -/
inductive BoundaryAct where
  /-- TBC queues COMMIT_APPLIED when the boundary swaps (R125). -/
  | commitApplied
  /-- TF re-evaluates its state when the swap makes a touched Part record active (R143). -/
  | reevaluate
  /-- TF takes the loss of its timing port when the swap disables it (R142, R144). -/
  | timingLoss
  /-- PORT p follows the new port_enable list when the boundary swaps (R155). -/
  | port (p : Port)
  /-- ME counts the lease (R171). -/
  | lease
  /-- TF makes its silent check (R141). -/
  | silent
  /-- TF places its SYNC cells (R145). -/
  | syncOut
  /-- ME advances the notices' ages and sends one (R182, R183). -/
  | send
deriving DecidableEq, Repr

/-- Which of the two notices that one departure from UP can queue is queued first: PORT's LINK (R159) or TF's
TIMING (R142). R153 states no order among them. -/
inductive LossOrder where
  | linkFirst
  | timingFirst
deriving DecidableEq, Repr

/-- How far one SYNC_TAKEN carries the step that TF asks for (R12; notes/assumptions/14.md). -/
inductive ForcedCloses where
  /-- TF takes the next SYNC and PT carries no step on, so that a SYNC can come between a step asked for and the step
  (R134; notes/assumptions/20.md). -/
  | sync
  /-- Only the forced closes of these groups, so that other events fall between them and the step (R34, R36). -/
  | only (groups : List GroupId)
  /-- The forced closes of these groups and then of every other OPEN one in order of number, and the step itself. -/
  | all (first : List GroupId)
deriving DecidableEq, Repr

/-- A command: one row of spec/opcode_table.json. -/
inductive Instr where
  /-- POWER_ON_RESET (R188). -/
  | powerOnReset
  /-- SOFT_RESET (R187). -/
  | softReset
  /-- TICK_END (R1). -/
  | tickEnd
  /-- BOUNDARY (R7), with the order of the blocks' actions. -/
  | boundary (schedule : List BoundaryAct)
  /-- CLAIM_EXPIRED (R171). -/
  | claimExpired
  /-- SYNC_MISSING (R141). -/
  | syncMissing
  /-- REFRESH_COPY (R127): the next position. -/
  | refreshCopy
  /-- REFRESH_COMPLETE (R127). -/
  | refreshComplete
  /-- OPEN (R9, R17) of a group. -/
  | openWindow (g : GroupId)
  /-- CLOSE (R10, R40) of a group. -/
  | closeWindow (g : GroupId)
  /-- SYNC_TAKEN (R134): TF takes the first SYNC handed to it; where TF has asked for a step, PT carries that step on, with
  the forced closes that `closes` names, and the actions of the step itself in the order of `schedule`. -/
  | syncTaken (closes : ForcedCloses) (schedule : List BoundaryAct)
  /-- SIGNAL_DETECTED (R151). -/
  | signalDetected (p : Port)
  /-- SIGNAL_LOST (R151). -/
  | signalLost (p : Port) (order : LossOrder)
  /-- ALIGNED (R152). -/
  | aligned (p : Port)
  /-- UNALIGNED (R154). -/
  | unaligned (p : Port) (order : LossOrder)
  /-- CELL_RECEIVED (R156): the last byte of this cell has come in on this port. -/
  | cellReceived (p : Port) (c : Cell) (order : LossOrder)
  /-- TX_COMPLETE (R102). -/
  | txComplete (p : Port)
  /-- IDENTIFY (R175). -/
  | identify
  /-- CLAIM (R169). -/
  | claim
  /-- RELEASE (R170). -/
  | release
  /-- READ_STATUS (R175). -/
  | readStatus
  /-- READ_STREAM (R129). -/
  | readStream
  /-- READ_GROUP (R129). -/
  | readGroup
  /-- READ_PART (R129). -/
  | readPart
  /-- READ_GROUP_STATE (R37, R176). -/
  | readGroupState
  /-- READ_PORT_COUNTERS (R158, R195). -/
  | readPortCounters
  /-- READ_STREAM_COUNTERS (R61, R195). -/
  | readStreamCounters
  /-- READ_GROUP_COUNTERS (R57). -/
  | readGroupCounters
  /-- READ_TIMING (R148). -/
  | readTiming
  /-- WRITE_STREAM (R115). -/
  | writeStream
  /-- WRITE_GROUP (R116). -/
  | writeGroup
  /-- WRITE_PART (R117). -/
  | writePart
  /-- COMMIT (R118). -/
  | commit
  /-- CANCEL (R121). -/
  | cancel
  /-- CLEAR_COUNTERS (R178). -/
  | clearCounters
  /-- ACK_NOTICE (R184). -/
  | ackNotice
  /-- RESET (R186). -/
  | reset
  /-- BAD_REQUEST (R165): a request whose code names no request. -/
  | badRequest
deriving DecidableEq, Repr

end Sys2Proof
end

