-- ==== Sys2Proof/Decode.lean ====
section
/-!
DEFINITION. The command that a word of spec/opcode_table.json's bits spells. The table gives no row any bits
(every row's "fields" is empty and none has "fixed"), so no word spells a command (notes/assumptions/22.md). The
bytes in which requests reach the part are read in Machine/Formats.lean and Machine/Operands.lean.
-/

namespace Sys2Proof

/-- No row of the table gives bits, so no word of any width spells a command. -/
def decodeTableWord (_nbits _w : Nat) : Option Instr := none

end Sys2Proof
end

