-- ==== Sys2Proof/Config.lean ====
section
/-!
DEFINITION. What this implementation fixes: the capacities and limits that the manual states as numbers.
The manual leaves no value of an effect open, so there is no free value here; the orders it leaves open are
operands of the commands (notes/assumptions/3.md).
-/

namespace Sys2Proof.Config

/-- Places of a CONTROL queue (R96). -/
def controlPlaces : Nat := 4

/-- Places of a DATA queue (R96). -/
def dataPlaces : Nat := 64

/-- Places of the request queue (R163). -/
def requestPlaces : Nat := 4

/-- Places of the notice queue (R180). -/
def noticePlaces : Nat := 16

/-- Least and greatest length of a period in ticks (R5). -/
def minPeriod : Nat := 64
def maxPeriod : Nat := 16384

/-- Boundaries without a SYNC that end a lock (R141). -/
def silentLimit : Nat := 8

/-- Consecutive out-of-tolerance SYNCs that end a lock (R139). -/
def missLimit : Nat := 3

/-- Consecutive failed checks that take a link from UP (R156). -/
def errorRunLimit : Nat := 8

/-- Ticks within which the refresh completes (R127). -/
def refreshLimit : Nat := 80

/-- Record positions a refresh copies: streams, groups, the Part record (R127). -/
def copyPositions : Nat := 1089

/-- Identity codes of IDENTIFY (R194). -/
def vendorCode : Half := 2117
def partCode : Half := 6408
def revisionCode : Byte := 1

/-- The generator of the check, reflected (R191). -/
def crcGenerator : BitVec 32 := 0xEDB88320

/-- Greatest and least sample (00_scope.md, Samples). -/
def maxSample : Int := 8388607
def minSample : Int := -8388608

end Sys2Proof.Config
end

