-- ==== Sys2Proof/Machine/State.lean ====
section
/-!
DEFINITION. The state of the HB6408, block by block (spec/00_scope.md, Block overview), and its power-on value (R188).
Plain data: every field is named by a rule, but for the model's own `copyAge` (notes/assumptions/23.md) and the queue
of waiting commands `pending`.
-/

namespace Sys2Proof.Machine

/-! ### The records of a table bank -/

/-- A destination port set: base and wildcard (R79). -/
structure Dest where
  base : BitVec 3
  wild : BitVec 3
deriving DecidableEq, Repr

/-- The fields of a stream record that shape its contribution (R58): group, slot and shift. -/
structure Feed where
  group : GroupId
  slot : Slot
  shift : Fin 8
deriving DecidableEq, Repr

/-- The action of a stream record with the fields that belong to it; the fields that do not are absent (R58). -/
inductive Action where
  | drop
  | forward (d : Dest)
  | contribute (f : Feed)
  | both (d : Dest) (f : Feed)
deriving DecidableEq, Repr

/-- Whether a copy may leave on the ingress port (R82). -/
inductive Echo where
  | allow
  | suppress
deriving DecidableEq, Repr

/-- A stream record (04_, 4.1). -/
structure StreamRec where
  action : Action
  echo : Echo
  rename : Option StreamId
  guard : Option Port
  seqCheck : Bool
deriving DecidableEq, Repr

inductive GroupMode where
  | continuous
  | oneShot
deriving DecidableEq, Repr

inductive CombineOp where
  | sum
  | max
  | min
  | priority
deriving DecidableEq, Repr

inductive Fill where
  | identity
  | hold
deriving DecidableEq, Repr

inductive OnShort where
  | suppress
  | mute
deriving DecidableEq, Repr

/-- A group record (02_, 2.1). -/
structure GroupRec where
  enabled : Bool
  mode : GroupMode
  op : CombineOp
  openTick : Nat
  closeTick : Nat
  contributors : Nat
  quorum : Nat
  fill : Fill
  onShort : OnShort
  sampleCount : Nat
  outStream : StreamId
  dest : Dest
  notifyShort : Bool
deriving DecidableEq, Repr

inductive Source where
  | free
  | follow
deriving DecidableEq, Repr

/-- The Part record (07_, 7.2). -/
structure PartRec where
  mgmtId : StreamId
  mgmtPorts : PortList
  portEnable : PortList
  baseLen : Nat
  fraction : Nat
  source : Source
  timingPort : Port
  tolerance : Nat
  syncOut : PortList
  syncId : StreamId
  leaseLen : Nat
  resend : Nat
deriving DecidableEq, Repr

/-- One table bank (R110). -/
structure Bank where
  streams : Vector StreamRec 1024
  groups : Vector GroupRec 64
  part : PartRec
deriving DecidableEq, Repr

/-! ### TBC, the Table Bank Controller -/

/-- The bank state (R113). -/
inductive BankState where
  | idle
  | armed
  | refresh
deriving DecidableEq, Repr

/-- TBC: the two banks by their roles, a touched mark for each position, the bank state and the copy in progress. -/
structure Banks where
  active : Bank
  shadow : Bank
  touchedStreams : Vector Bool 1024
  touchedGroups : Vector Bool 64
  touchedPart : Bool
  state : BankState
  /-- The position the refresh copies next: streams 0..1023, groups 1024..1087, the Part record 1088; 1089 when all
  are copied (R127). It has no meaning outside REFRESH. -/
  copyPos : Nat
  /-- Ticks ended since the swap or the soft reset that began the copy (the bound of R127). -/
  copyAge : Nat
deriving DecidableEq, Repr

/-! ### PT, the Period Timer -/

structure PeriodTimer where
  tick : Nat
  len : Nat
  phase : Nat
  period : Half
  pendingAdj : Option Int
  pendingNum : Option Half
  /-- The number of the step that TF has asked for and PT has not yet taken (R12). -/
  stepRequest : Option Half
deriving DecidableEq, Repr

/-! ### TF, the Timing Follower -/

/-- The timing state (R133). -/
inductive TimingState where
  | free
  | acquire
  | locked
  | holdover
deriving DecidableEq, Repr

structure Follower where
  state : TimingState
  miss : Counter
  silent : Counter
  seen : Bool
  lastOffset : Option Int
  syncInTol : Counter
  syncOutTol : Counter
  syncMissing : Counter
  steps : Counter
  numberSlip : Counter
  /-- The period numbers of the SYNCs that CLS has handed over and TF has not yet taken, oldest first (R64, R134, R142). -/
  handed : List Half
deriving DecidableEq, Repr

/-! ### CE, the Combine Engine -/

/-- The accumulator's state (02_, 2.2). `opened` is the manual's OPEN. -/
inductive AccState where
  | off
  | idle
  | opened
  | done
  | spent
deriving DecidableEq, Repr

/-- The running result: a value per position for SUM, MAX and MIN (R23, R24), or for PRIORITY none or the lowest slot
so far with its samples (R25). -/
inductive Running where
  | values (v : Samples)
  | lead (l : Option (Slot × Samples))
deriving DecidableEq, Repr

/-- The seven counters of a group (R56). -/
structure GroupCounters where
  emitted : Counter
  short : Counter
  suppressed : Counter
  lost : Counter
  cut : Counter
  filled : Counter
  noDest : Counter
deriving DecidableEq, Repr

/-- One group's accumulator with its hold records and counters. A slot is in the arrived set when it has an arrival
tick (R22); a hold record is valid when it is present (R26, R27). -/
structure Accum where
  state : AccState
  arrived : Vector (Option Nat) 8
  result : Running
  filled : Bool
  cut : Bool
  emission : Byte
  holds : Vector (Option Samples) 8
  counters : GroupCounters
deriving DecidableEq, Repr

/-! ### CLS, the Ingress Classifier -/

/-- The thirteen counters of a stream (R61). -/
structure StreamCounters where
  accepted : Counter
  dropped : Counter
  guard : Counter
  repeated : Counter
  gap : Counter
  kind : Counter
  noDest : Counter
  poolDrop : Counter
  early : Counter
  late : Counter
  duplicate : Counter
  size : Counter
  groupOff : Counter
deriving DecidableEq, Repr

/-- What CLS keeps of one stream (R60, R61). -/
structure StreamState where
  lastSeq : Option Byte
  counters : StreamCounters
deriving DecidableEq, Repr

/-! ### POOL, EQ and PORT -/

/-- One buffer of the pool: the stored cell and its reference count; free when the count is 0 (R92). -/
structure Buffer where
  cell : Cell
  refs : Nat
deriving DecidableEq, Repr

/-- A notice's kind together with its subject (10_, 10.5). Notices of one kind and subject replace each other (R181). -/
inductive Topic where
  | startedPowerOn
  | startedSoft
  | commitApplied
  | claimExpired (tag : Half)
  | timing
  | poolEmpty
  | groupLost (g : GroupId)
  | groupShort (g : GroupId)
  | link (p : Port)
deriving DecidableEq, Repr

/-- A notice's payload (10_, 10.5). -/
inductive NoticePayload where
  | nothing
  | timing (t : TimingState)
  | link (up : Bool)
deriving DecidableEq, Repr

/-- A notice (R180). The age is absent for "never". -/
structure Notice where
  number : Half
  topic : Topic
  payload : NoticePayload
  repeats : Nat
  age : Option Nat
deriving DecidableEq, Repr

/-- What a NOTICE entry copies at its append (R98, R183, R196). -/
structure NoticeCopy where
  notice : Notice
  streamId : StreamId
  period : Half
  overflow : Bool
deriving DecidableEq, Repr

/-- An entry of a CONTROL queue (R96, R98). -/
inductive ControlEntry where
  | response (r : RespId)
  | notice (c : NoticeCopy)
  | sync (id : StreamId) (period : Half)
deriving DecidableEq, Repr

/-- The two queues of a port. -/
inductive Lane where
  | control
  | data
deriving DecidableEq, Repr

/-- A transmitter: IDLE, or SENDING the head of one queue, with the cell fixed at its start (R99, R101). The cell is
the part's output on the port. -/
inductive Transmitter where
  | idle
  | sending (lane : Lane) (cell : Cell)
deriving DecidableEq, Repr

/-- The link state (R150). -/
inductive Link where
  | down
  | training
  | up
deriving DecidableEq, Repr

/-- The eleven counters of a port (R158). -/
structure PortCounters where
  rxCells : Counter
  rxCheck : Counter
  rxFormat : Counter
  mgmtDenied : Counter
  mgmtDrop : Counter
  txCells : Counter
  egressDrop : Counter
  egressFlush : Counter
  syncSkip : Counter
  rspDrop : Counter
  linkDowns : Counter
deriving DecidableEq, Repr

/-- One port: PORT's state (R150) and EQ's pair of queues with the transmitter (R96, R99). -/
structure PortState where
  link : Link
  signal : Bool
  errorRun : Nat
  counters : PortCounters
  control : List ControlEntry
  data : List BufId
  tx : Transmitter
deriving DecidableEq, Repr

/-! ### ME, the Management Engine -/

/-- A queued request: the whole cell and its ingress port (R163). -/
structure Request where
  cell : Cell
  port : Port
deriving DecidableEq, Repr

/-- A status (10_, 10.4). -/
inductive Status where
  | ok
  | badRequest
  | badField
  | badIndex
  | badSet
  | notOwner
  | claimed
  | shadowArmed
  | shadowBusy
  | alreadyArmed
  | notArmed
  | checkFailed
deriving DecidableEq, Repr

/-- A response in its slot (R166). `data` are the bytes from 18 on; those it does not reach are 0 (R192). -/
structure Response where
  replyId : StreamId
  controllerTag : Half
  transactionTag : Half
  code : Byte
  status : Status
  data : List Byte
  port : Port
  period : Half
deriving DecidableEq, Repr

/-- The transaction cache's contents (R173). -/
structure CacheEntry where
  transactionTag : Half
  code : Byte
  status : Status
  data : List Byte
deriving DecidableEq, Repr

/-- The claim record (R168). Without a holder the other fields carry no meaning. -/
structure Claim where
  holder : Option Half
  port : Port
  noticeId : StreamId
  lease : Nat
deriving DecidableEq, Repr

structure Management where
  requests : List Request
  slots : Vector (Option Response) 4
  resetting : Bool
  claim : Claim
  cache : Option CacheEntry
  notices : List Notice
  nextNumber : Half
  overflow : Bool
deriving DecidableEq, Repr

/-! ### The part -/

/-- The whole state. -/
structure State where
  pt : PeriodTimer
  tf : Follower
  groups : Vector Accum 64
  streams : Vector StreamState 1024
  pool : Vector Buffer 384
  ports : Vector PortState 8
  banks : Banks
  me : Management
  /-- The commands that wait, the next one first. -/
  pending : List Instr
deriving DecidableEq, Repr

/-- No command stops the part with a fault: the manual gives every event an effect. -/
inductive Fault where
deriving DecidableEq, Repr

/-- Refusals. -/
inductive Refusal where
  /-- An arm of exec whose command has no meaning yet; no arm is refused. Safe. -/
  | notModelled (mnemonic : String)
deriving DecidableEq, Repr

/-! ### Values after power-on -/

/-- The default stream record (R131). -/
def StreamRec.default : StreamRec :=
  { action := .drop, echo := .suppress, rename := none, guard := none, seqCheck := false }

/-- The default group record (02_, 2.1; R131). -/
def GroupRec.default : GroupRec :=
  { enabled := false, mode := .continuous, op := .sum, openTick := 0, closeTick := 1, contributors := 1, quorum := 1,
    fill := .identity, onShort := .suppress, sampleCount := 1, outStream := 0, dest := { base := 0, wild := 0 },
    notifyShort := false }

/-- The default Part record (07_, 7.2; R131). -/
def PartRec.default : PartRec :=
  { mgmtId := 1023, mgmtPorts := 255, portEnable := 255, baseLen := 1000, fraction := 0, source := .free,
    timingPort := 0, tolerance := 8, syncOut := 0, syncId := 1022, leaseLen := 2000, resend := 200 }

/-- A bank of default records (R131). -/
def Bank.default : Bank :=
  { streams := Vector.replicate 1024 StreamRec.default, groups := Vector.replicate 64 GroupRec.default,
    part := PartRec.default }

def GroupCounters.zero : GroupCounters :=
  { emitted := 0, short := 0, suppressed := 0, lost := 0, cut := 0, filled := 0, noDest := 0 }

def StreamCounters.zero : StreamCounters :=
  { accepted := 0, dropped := 0, guard := 0, repeated := 0, gap := 0, kind := 0, noDest := 0, poolDrop := 0,
    early := 0, late := 0, duplicate := 0, size := 0, groupOff := 0 }

def PortCounters.zero : PortCounters :=
  { rxCells := 0, rxCheck := 0, rxFormat := 0, mgmtDenied := 0, mgmtDrop := 0, txCells := 0, egressDrop := 0,
    egressFlush := 0, syncSkip := 0, rspDrop := 0, linkDowns := 0 }

/-- An OFF accumulator after power-on (R38). The running result is 0 at the default record's one position. -/
def Accum.powerOn : Accum :=
  { state := .off, arrived := Vector.replicate 8 none, result := .values [0], filled := false, cut := false,
    emission := 0, holds := Vector.replicate 8 none, counters := GroupCounters.zero }

def StreamState.powerOn : StreamState := { lastSeq := none, counters := StreamCounters.zero }

/-- A free buffer. DESIGN CHOICE (notes/assumptions/10.md): the manual gives its contents no value. -/
def Buffer.powerOn : Buffer := { cell := Vector.replicate 64 0, refs := 0 }

/-- A port after power-on (R161, R109). -/
def PortState.powerOn : PortState :=
  { link := .down, signal := false, errorRun := 0, counters := PortCounters.zero, control := [], data := [],
    tx := .idle }

/-- No holder (R168). DESIGN CHOICE (notes/assumptions/10.md): the other fields, without meaning then, are 0. -/
def Claim.absent : Claim := { holder := none, port := 0, noticeId := 0, lease := 0 }

/-- ME after a reset, with STARTED of the given cause as notice 0 (R187, R188). -/
def Management.afterReset (cause : Topic) : Management :=
  { requests := [], slots := Vector.replicate 4 none, resetting := false, claim := Claim.absent, cache := none,
    notices := [{ number := 0, topic := cause, payload := .nothing, repeats := 1, age := none }],
    nextNumber := 1, overflow := false }

/-- TF's values after a reset, in the state the active source calls for (R149). -/
def Follower.afterReset (t : TimingState) : Follower :=
  { state := t, miss := 0, silent := 0, seen := false, lastOffset := none, syncInTol := 0, syncOutTol := 0,
    syncMissing := 0, steps := 0, numberSlip := 0, handed := [] }

/-- PT's values after a reset, for a first period of `len` ticks (R14, R15). -/
def PeriodTimer.afterReset (len : Nat) : PeriodTimer :=
  { tick := 0, len := len, phase := 0, period := 0, pendingAdj := none, pendingNum := none,
    stepRequest := none }

/-- TBC after power-on (R131). -/
def Banks.powerOn : Banks :=
  { active := Bank.default, shadow := Bank.default, touchedStreams := Vector.replicate 1024 false,
    touchedGroups := Vector.replicate 64 false, touchedPart := false, state := .idle, copyPos := 0, copyAge := 0 }

/-- The part right after power-on reset (R188), with no command waiting. -/
def State.reset : State :=
  { pt := PeriodTimer.afterReset 1000
    tf := Follower.afterReset .free
    groups := Vector.replicate 64 Accum.powerOn
    streams := Vector.replicate 1024 StreamState.powerOn
    pool := Vector.replicate 384 Buffer.powerOn
    ports := Vector.replicate 8 PortState.powerOn
    banks := Banks.powerOn
    me := Management.afterReset .startedPowerOn
    pending := [] }

end Sys2Proof.Machine
end

