-- ==== Sys2Proof/Machine/Flags.lean ====
section
/-!
DEFINITION. Counters and marks: the saturating counters every block advances (00_scope.md, Counters), the flag bits of
a cell (R189, R190) and the saturation of samples (R44).
-/

namespace Sys2Proof.Machine

/-- A counter advanced by `n`; it saturates at 4,294,967,295. -/
def satAdd (c : Counter) (n : Nat) : Counter := BitVec.ofNat 32 (min (c.toNat + n) 4294967295)

/-- A counter advanced by one. -/
def satInc (c : Counter) : Counter := satAdd c 1

/-- The flags byte of a combine output: SHORT 1, CUT 2, FILLED 4 (R49, R190). -/
def outputFlags (short cut filled : Bool) : Byte :=
  (if short then 1 else 0) ||| (if cut then 2 else 0) ||| (if filled then 4 else 0)

/-- Saturation of one total to the sample range (R44). -/
def saturateSample (x : Int) : Int :=
  if x > Config.maxSample then Config.maxSample else if x < Config.minSample then Config.minSample else x

/-- An arithmetic right shift: division by 2^k rounded down (R30). -/
def shiftSample (k : Fin 8) (x : Int) : Int := x / 2 ^ k.val

/-- A port stands in a port list (R189). -/
def inPortList (l : PortList) (p : Port) : Bool := l.getLsbD p.val

end Sys2Proof.Machine
end

