-- ==== Sys2Proof/Machine/Formats.lean ====
section
/-!
DEFINITION. Byte layouts (spec/11_formats_and_layouts.md): reading cells, the check, building cells, the codes, and
the encodings of the three records.
-/

namespace Sys2Proof.Machine

/-! ### Reading a cell -/

/-- Byte `i` of a cell (0 past its end). -/
def cellByte (c : Cell) (i : Nat) : Byte := c.toList.getD i 0

/-- The two bytes from `i`, most significant first (R189). -/
def cellHalf (c : Cell) (i : Nat) : Half := cellByte c i ++ cellByte c (i + 1)

/-- The four bytes from `i`, most significant first (R189). -/
def cellWord (c : Cell) (i : Nat) : BitVec 32 := cellHalf c i ++ cellHalf c (i + 2)

def cellKind (c : Cell) : Byte := cellByte c 0
/-- The low 12 bits of bytes 2 and 3 (R190). -/
def cellStreamId (c : Cell) : BitVec 12 := (cellHalf c 2).setWidth 12
def cellSequence (c : Cell) : Byte := cellByte c 4
def cellSampleCount (c : Cell) : Nat := (cellByte c 5).toNat
def cellPeriod (c : Cell) : Half := cellHalf c 6

/-- Sample `i`: bytes 12+3i to 14+3i, two's complement (R191). -/
def cellSample (c : Cell) (i : Nat) : Int :=
  ((cellHalf c (12 + 3 * i) ++ cellByte c (14 + 3 * i) : BitVec 24)).toInt

/-- The first `n` samples of the payload. -/
def cellSamples (c : Cell) (n : Nat) : Samples := (List.range n).map (cellSample c)

/-! ### The check (R191) -/

/-- One data bit into the register. -/
def crcBit (r : BitVec 32) (b : Bool) : BitVec 32 :=
  if r.getLsbD 0 != b then (r >>> 1) ^^^ Config.crcGenerator else r >>> 1

/-- One byte, least significant bit first. -/
def crcByte (r : BitVec 32) (b : Byte) : BitVec 32 :=
  [0, 1, 2, 3, 4, 5, 6, 7].foldl (fun r i => crcBit r (b.getLsbD i)) r

/-- The CRC-32 of a run of bytes: from all ones, inverted at the end. -/
def crc32 (bytes : List Byte) : BitVec 32 := ~~~(bytes.foldl crcByte 0xFFFFFFFF#32)

/-- The check computed over a cell's bytes 0 to 59. -/
def cellCheck (c : Cell) : BitVec 32 := crc32 (c.toList.take 60)

/-- The check in bytes 60 to 63 agrees with the computed one (R156). -/
def checkGood (c : Cell) : Bool := cellCheck c == cellWord c 60

/-! ### Building a cell -/

/-- A number in two bytes, most significant first. -/
def be16 (x : Half) : List Byte := [x.extractLsb' 8 8, x.extractLsb' 0 8]

/-- A number in four bytes, most significant first. -/
def be32 (x : BitVec 32) : List Byte := be16 (x.extractLsb' 16 16) ++ be16 (x.extractLsb' 0 16)

/-- `n` in two bytes. -/
def nat16 (n : Nat) : List Byte := be16 (BitVec.ofNat 16 n)

/-- `n` in one byte. -/
def nat8 (n : Nat) : Byte := BitVec.ofNat 8 n

/-- The list cut or filled with zero bytes to exactly `n` bytes. -/
def fitBytes (n : Nat) (l : List Byte) : List Byte := (l ++ List.replicate n 0).take n

theorem fitBytes_length (n : Nat) (l : List Byte) : (fitBytes n l).length = n := by
  simp [fitBytes]

/-- A cell of 60 given bytes (missing ones 0) with its check computed afresh (R191). -/
def buildCell (bytes : List Byte) : Cell :=
  ⟨(fitBytes 60 bytes ++ fitBytes 4 (be32 (crc32 (fitBytes 60 bytes)))).toArray, by simp [fitBytes_length]⟩

/-- A header of the part's own: the high 4 bits of byte 2 and bytes 8 to 11 are 0 (R190). -/
def header (kind flags : Byte) (streamId : Nat) (sequence sampleCount : Byte) (period : Half) : List Byte :=
  [kind, flags] ++ nat16 streamId ++ [sequence, sampleCount] ++ be16 period ++ [0, 0, 0, 0]

/-- A sample in three bytes (R191). -/
def sampleBytes (x : Int) : List Byte :=
  let b := BitVec.ofInt 24 x
  [b.extractLsb' 16 8, b.extractLsb' 8 8, b.extractLsb' 0 8]

/-- A forwarded copy under a new stream_id: the low 12 bits of bytes 2 and 3 replaced, the high 4 bits of byte 2 kept,
the check computed afresh (R87, R190). -/
def renameCell (c : Cell) (id : StreamId) : Cell :=
  let hi : Byte := (cellByte c 2 &&& 0xF0#8) ||| (BitVec.ofNat 8 (id.val / 256))
  buildCell (((c.toList.take 60).set 2 hi).set 3 (nat8 id.val))

/-! ### Codes -/

def kindData : Byte := 1
def kindSync : Byte := 2
def kindRequest : Byte := 3
def kindResponse : Byte := 4
def kindNotice : Byte := 5

/-- The request names of 10_, 10.4. -/
inductive RequestName where
  | identify | claim | release | readStatus | readStream | readGroup | readPart | readGroupState | readPortCounters
  | readStreamCounters | readGroupCounters | readTiming | writeStream | writeGroup | writePart | commit | cancel
  | clearCounters | ackNotice | reset
deriving DecidableEq, Repr

/-- The name a request code has, if it has one (R192). -/
def requestName (code : Byte) : Option RequestName :=
  match code.toNat with
  | 1 => some .identify
  | 2 => some .claim
  | 3 => some .release
  | 4 => some .readStatus
  | 5 => some .readStream
  | 6 => some .readGroup
  | 7 => some .readPart
  | 8 => some .readGroupState
  | 9 => some .readPortCounters
  | 10 => some .readStreamCounters
  | 11 => some .readGroupCounters
  | 12 => some .readTiming
  | 16 => some .writeStream
  | 17 => some .writeGroup
  | 18 => some .writePart
  | 19 => some .commit
  | 20 => some .cancel
  | 21 => some .clearCounters
  | 22 => some .ackNotice
  | 23 => some .reset
  | _ => none

/-- The code of RESET. -/
def resetCode : Byte := 23

/-- The requests reserved to the holder (R165). -/
def reservedToHolder (n : RequestName) : Bool :=
  match n with
  | .release | .writeStream | .writeGroup | .writePart | .commit | .cancel | .clearCounters | .ackNotice | .reset => true
  | .identify | .claim | .readStatus | .readStream | .readGroup | .readPart | .readGroupState | .readPortCounters
  | .readStreamCounters | .readGroupCounters | .readTiming => false

def statusCode (s : Status) : Byte :=
  match s with
  | .ok => 0
  | .badRequest => 1
  | .badField => 2
  | .badIndex => 3
  | .badSet => 4
  | .notOwner => 5
  | .claimed => 6
  | .shadowArmed => 7
  | .shadowBusy => 8
  | .alreadyArmed => 9
  | .notArmed => 10
  | .checkFailed => 11

/-- The reasons of CHECK_FAILED in the order of the checks (R119). -/
inductive CheckReason where
  | window | slotRange | slotTaken | noMgmtPort | timingPort
deriving DecidableEq, Repr

def reasonCode (r : CheckReason) : Byte :=
  match r with
  | .window => 1
  | .slotRange => 2
  | .slotTaken => 3
  | .noMgmtPort => 4
  | .timingPort => 5

def bankStateCode (s : BankState) : Byte :=
  match s with
  | .idle => 0
  | .armed => 1
  | .refresh => 2

def timingCode (t : TimingState) : Byte :=
  match t with
  | .free => 0
  | .acquire => 1
  | .locked => 2
  | .holdover => 3

def accStateCode (s : AccState) : Byte :=
  match s with
  | .off => 0
  | .idle => 1
  | .opened => 2
  | .done => 3
  | .spent => 4

def linkCode (l : Link) : Byte :=
  match l with
  | .down => 0
  | .training => 1
  | .up => 2

/-- A mark's code. -/
def boolByte (b : Bool) : Byte := if b then 1 else 0

/-! ### Cells the part builds -/

/-- A SYNC cell (R98). -/
def syncCell (id : StreamId) (period : Half) : Cell := buildCell (header kindSync 0 id.val 0 0 period)

/-- The response cell of a slot (R166, R192). -/
def responseCell (r : Response) : Cell :=
  buildCell (header kindResponse 0 r.replyId.val 0 0 r.period ++ be16 r.controllerTag ++ be16 r.transactionTag ++
    [r.code, statusCode r.status] ++ fitBytes 42 r.data)

/-- The kind code and the subject of a notice (R196). -/
def topicFields (t : Topic) : Byte × Half :=
  match t with
  | .startedPowerOn => (1, 0)
  | .startedSoft => (1, 1)
  | .commitApplied => (2, 0)
  | .claimExpired tag => (3, tag)
  | .timing => (4, 0)
  | .poolEmpty => (5, 0)
  | .groupLost g => (6, BitVec.ofNat 16 g.val)
  | .groupShort g => (7, BitVec.ofNat 16 g.val)
  | .link p => (8, BitVec.ofNat 16 p.val)

/-- The payload byte of a notice (R196). -/
def payloadCode (p : NoticePayload) : Byte :=
  match p with
  | .nothing => 0
  | .timing t => timingCode t
  | .link up => boolByte up

/-- The notice cell of a copy (R183, R196). -/
def noticeCell (n : NoticeCopy) : Cell :=
  buildCell (header kindNotice 0 n.streamId.val 0 0 n.period ++ be16 n.notice.number ++
    [(topicFields n.notice.topic).1, nat8 n.notice.repeats] ++ be16 (topicFields n.notice.topic).2 ++
    [payloadCode n.notice.payload, boolByte n.overflow])

/-- A combine output (R49, R190, R191). -/
def outputCell (flags : Byte) (streamId : StreamId) (sequence : Byte) (sampleCount : Nat) (period : Half)
    (samples : Samples) : Cell :=
  buildCell (header kindData flags streamId.val sequence (nat8 sampleCount) period ++ samples.flatMap sampleBytes)

/-! ### Records (11.3) -/

/-- A byte's low three bits as a set's base or wildcard. -/
def byte3 (b : Byte) : BitVec 3 := b.setWidth 3

def half (hi lo : Byte) : Nat := ((hi ++ lo : BitVec 16)).toNat

/-- A flag bit of a record (11.3). -/
def flagBit (b : Byte) (i : Nat) : Bool := b.getLsbD i

/-- The stream record at `at0` of a request, by rows 4 and 5 of R114 (R115, R193). -/
def decodeStreamRec (c : Cell) (at0 : Nat) : Except Status StreamRec :=
  let b := fun i => cellByte c (at0 + i)
  let code := (b 0).toNat
  let forwards := code == 1 || code == 3
  let feeds := code == 2 || code == 3
  let renamed := flagBit (b 1) 2
  let guarded := flagBit (b 1) 3
  let inRange := decide (code ≤ 3)
    && (!renamed || decide (half (b 2) (b 3) < 1024))
    && (!guarded || decide ((b 4).toNat < 8))
    && (!forwards || (decide ((b 5).toNat < 8) && decide ((b 6).toNat < 8)))
    && (!feeds || (decide ((b 7).toNat < 64) && decide ((b 8).toNat < 8) && decide ((b 9).toNat < 8)))
  let dest : Dest := { base := byte3 (b 5), wild := byte3 (b 6) }
  let feed : Feed := { group := Fin.ofNat 64 (b 7).toNat, slot := Fin.ofNat 8 (b 8).toNat, shift := Fin.ofNat 8 (b 9).toNat }
  if !inRange then .error .badField
  else if forwards && dest.base &&& dest.wild != 0 then .error .badSet
  else .ok
    { action := if forwards && feeds then .both dest feed else if forwards then .forward dest
        else if feeds then .contribute feed else .drop
      echo := if flagBit (b 1) 0 then .allow else .suppress
      rename := if renamed then some (Fin.ofNat 1024 (half (b 2) (b 3))) else none
      guard := if guarded then some (Fin.ofNat 8 (b 4).toNat) else none
      seqCheck := flagBit (b 1) 1 }

/-- The op a code names. -/
def opOfCode (n : Nat) : CombineOp :=
  match n with
  | 0 => .sum
  | 1 => .max
  | 2 => .min
  | _ => .priority

def opCode (o : CombineOp) : Byte :=
  match o with
  | .sum => 0
  | .max => 1
  | .min => 2
  | .priority => 3

/-- The group record at `at0` of a request, by rows 4, 5 and 6 of R114 (R116, R193). -/
def decodeGroupRec (c : Cell) (at0 : Nat) : Except Status GroupRec :=
  let b := fun i => cellByte c (at0 + i)
  let openTick := half (b 2) (b 3)
  let closeTick := half (b 4) (b 5)
  let contributors := (b 6).toNat
  let quorum := (b 7).toNat
  let sampleCount := (b 8).toNat
  let outStream := half (b 9) (b 10)
  let dest : Dest := { base := byte3 (b 11), wild := byte3 (b 12) }
  let inRange := decide ((b 1).toNat ≤ 3) && decide (openTick ≤ 16382)
    && decide (1 ≤ closeTick) && decide (closeTick ≤ 16383)
    && decide (1 ≤ contributors) && decide (contributors ≤ 8) && decide (1 ≤ quorum) && decide (quorum ≤ 8)
    && decide (1 ≤ sampleCount) && decide (sampleCount ≤ 16) && decide (outStream < 1024)
    && decide ((b 11).toNat < 8) && decide ((b 12).toNat < 8)
  if !inRange then .error .badField
  else if dest.base &&& dest.wild != 0 then .error .badSet
  else if !(decide (openTick < closeTick) && decide (quorum ≤ contributors)) then .error .badField
  else .ok
    { enabled := flagBit (b 0) 0
      mode := if flagBit (b 0) 1 then .oneShot else .continuous
      op := opOfCode (b 1).toNat
      openTick := openTick
      closeTick := closeTick
      contributors := contributors
      quorum := quorum
      fill := if flagBit (b 0) 2 then .hold else .identity
      onShort := if flagBit (b 0) 3 then .mute else .suppress
      sampleCount := sampleCount
      outStream := Fin.ofNat 1024 outStream
      dest := dest
      notifyShort := flagBit (b 0) 4 }

/-- The Part record at `at0` of a request, by row 4 of R114 (R117, R193). -/
def decodePartRec (c : Cell) (at0 : Nat) : Except Status PartRec :=
  let b := fun i => cellByte c (at0 + i)
  let mgmtId := half (b 4) (b 5)
  let baseLen := half (b 6) (b 7)
  let syncId := half (b 11) (b 12)
  let leaseLen := half (b 13) (b 14)
  let resend := half (b 15) (b 16)
  let inRange := decide (mgmtId < 1024) && decide (64 ≤ baseLen) && decide (baseLen ≤ 16383)
    && decide ((b 8).toNat ≤ 15) && decide ((b 9).toNat < 8) && decide ((b 10).toNat ≤ 63) && decide (syncId < 1024)
    && decide (16 ≤ leaseLen) && decide (1 ≤ resend)
  if !inRange then .error .badField
  else .ok
    { mgmtId := Fin.ofNat 1024 mgmtId
      mgmtPorts := b 0
      portEnable := b 1
      baseLen := baseLen
      fraction := (b 8).toNat
      source := if flagBit (b 3) 0 then .follow else .free
      timingPort := Fin.ofNat 8 (b 9).toNat
      tolerance := (b 10).toNat
      syncOut := b 2
      syncId := Fin.ofNat 1024 syncId
      leaseLen := leaseLen
      resend := resend }

/-- The touched bit of a reported record (11.3). -/
def touchedBit (touched : Bool) : Byte := if touched then 128 else 0

/-- The bytes of an action's destination set, 255 each where absent (R193). -/
def destBytes (a : Action) : List Byte :=
  match a with
  | .forward d | .both d _ => [d.base.setWidth 8, d.wild.setWidth 8]
  | .drop | .contribute _ => [255, 255]

/-- The bytes of an action's group, slot and shift, 255 each where absent (R193). -/
def feedBytes (a : Action) : List Byte :=
  match a with
  | .contribute f | .both _ f => [nat8 f.group.val, nat8 f.slot.val, nat8 f.shift.val]
  | .drop | .forward _ => [255, 255, 255]

def actionCode (a : Action) : Byte :=
  match a with
  | .drop => 0
  | .forward _ => 1
  | .contribute _ => 2
  | .both _ _ => 3

/-- A stream record as reported, 10 bytes (R193). -/
def encodeStreamRec (r : StreamRec) (touched : Bool) : List Byte :=
  [actionCode r.action,
    (if r.echo = .allow then 1 else 0) ||| (if r.seqCheck then 2 else 0) ||| (if r.rename.isSome then 4 else 0)
      ||| (if r.guard.isSome then 8 else 0) ||| touchedBit touched]
    ++ nat16 (r.rename.elim 0 (·.val)) ++ [nat8 (r.guard.elim 0 (·.val))] ++ destBytes r.action ++ feedBytes r.action

/-- A group record as reported, 13 bytes (R193). -/
def encodeGroupRec (r : GroupRec) (touched : Bool) : List Byte :=
  [(if r.enabled then 1 else 0) ||| (if r.mode = .oneShot then 2 else 0) ||| (if r.fill = .hold then 4 else 0)
      ||| (if r.onShort = .mute then 8 else 0) ||| (if r.notifyShort then 16 else 0) ||| touchedBit touched,
    opCode r.op]
    ++ nat16 r.openTick ++ nat16 r.closeTick ++ [nat8 r.contributors, nat8 r.quorum, nat8 r.sampleCount]
    ++ nat16 r.outStream.val ++ [r.dest.base.setWidth 8, r.dest.wild.setWidth 8]

/-- The Part record as reported, 17 bytes (R193). -/
def encodePartRec (r : PartRec) (touched : Bool) : List Byte :=
  [r.mgmtPorts, r.portEnable, r.syncOut, (if r.source = .follow then 1 else 0) ||| touchedBit touched]
    ++ nat16 r.mgmtId.val ++ nat16 r.baseLen
    ++ [nat8 r.fraction, nat8 r.timingPort.val, nat8 r.tolerance]
    ++ nat16 r.syncId.val ++ nat16 r.leaseLen ++ nat16 r.resend

end Sys2Proof.Machine
end

