-- ==== Sys2Proof/WellFormed.lean ====
section
/-!
DEFINITION. Which operands are lawful. Ports, groups and cells are in range by their types; what is left to check is
that a schedule of a boundary's actions keeps the order that single rules state.
-/

namespace Sys2Proof

/-- The eight ports. -/
def allPorts : List Port := [0, 1, 2, 3, 4, 5, 6, 7]

/-- The actions a swap takes (R125, R143, R142, R155). -/
def swapActs : List BoundaryAct :=
  [.commitApplied, .reevaluate, .timingLoss, .port 0, .port 1, .port 2, .port 3, .port 4, .port 5, .port 6, .port 7]

/-- The schedule the model reads an unlawful operand as. -/
def standardSchedule : List BoundaryAct := swapActs ++ [.lease, .silent, .syncOut, .send]

/-- `a` stands before `b`. -/
def standsBefore (l : List BoundaryAct) (a b : BoundaryAct) : Bool := decide (l.idxOf a < l.idxOf b)

/-- A lawful schedule names every action once; what the swap changes comes before TF's own action, ME's sending and
the SYNC cells (R125, R143, R155, R183); the lease is counted before the sending (R171). Everything else is free. -/
def lawfulSchedule (l : List BoundaryAct) : Bool :=
  l.isPerm standardSchedule
    && swapActs.all (fun a => standsBefore l a .silent && standsBefore l a .syncOut && standsBefore l a .send)
    && standsBefore l .lease .send

/-- A command's operands are lawful. -/
def Instr.wellFormed (i : Instr) : Bool :=
  match i with
  | .boundary sch => lawfulSchedule sch
  | .syncTaken _ sch => lawfulSchedule sch
  | .powerOnReset | .softReset | .tickEnd | .claimExpired | .syncMissing | .refreshCopy | .refreshComplete
  | .openWindow _ | .closeWindow _ | .signalDetected _ | .signalLost _ _ | .aligned _ | .unaligned _ _
  | .cellReceived _ _ _ | .txComplete _ | .identify | .claim | .release | .readStatus | .readStream | .readGroup
  | .readPart | .readGroupState | .readPortCounters | .readStreamCounters | .readGroupCounters | .readTiming
  | .writeStream | .writeGroup | .writePart | .commit | .cancel | .clearCounters | .ackNotice | .reset
  | .badRequest => true

end Sys2Proof
end

