-- ==== Sys2Proof/Machine/Ops.lean ====
section
/-!
DEFINITION. The named operations every block's meaning is written over: updates of one port, group, stream or buffer;
queueing a notice (R181); taking and returning buffers (R93, R94); the queues, the arbiter and the transmitter (R97 to
R100); the flush (R104); response slots (R103).
-/

namespace Sys2Proof.Machine

/-! ### Updates of one element -/

/-- `v` with element `i` changed by `f`. -/
def vecMod {α : Type} {n : Nat} (v : Vector α n) (i : Fin n) (f : α → α) : Vector α n := v.set i.val (f v[i]) i.isLt

def State.modPort (s : State) (p : Port) (f : PortState → PortState) : State := { s with ports := vecMod s.ports p f }
def State.modGroup (s : State) (g : GroupId) (f : Accum → Accum) : State := { s with groups := vecMod s.groups g f }
def State.modStream (s : State) (i : StreamId) (f : StreamState → StreamState) : State :=
  { s with streams := vecMod s.streams i f }
def State.modBuffer (s : State) (b : BufId) (f : Buffer → Buffer) : State := { s with pool := vecMod s.pool b f }
def State.modMe (s : State) (f : Management → Management) : State := { s with me := f s.me }
def State.modTf (s : State) (f : Follower → Follower) : State := { s with tf := f s.tf }
def State.modPt (s : State) (f : PeriodTimer → PeriodTimer) : State := { s with pt := f s.pt }
def State.modBanks (s : State) (f : Banks → Banks) : State := { s with banks := f s.banks }

/-- A change of one port's counters. -/
def State.countPort (s : State) (p : Port) (f : PortCounters → PortCounters) : State :=
  s.modPort p (fun q => { q with counters := f q.counters })

/-- A change of one stream's counters. -/
def State.countStream (s : State) (i : StreamId) (f : StreamCounters → StreamCounters) : State :=
  s.modStream i (fun t => { t with counters := f t.counters })

/-- A change of one group's counters. -/
def State.countGroup (s : State) (g : GroupId) (f : GroupCounters → GroupCounters) : State :=
  s.modGroup g (fun a => { a with counters := f a.counters })

/-! ### What every block reads -/

/-- The active Part record (R110). -/
def State.part (s : State) : PartRec := s.banks.active.part

/-- The active record of a group (R16). -/
def State.groupRec (s : State) (g : GroupId) : GroupRec := s.banks.active.groups[g]

/-- The active record of a stream (R59). -/
def State.streamRec (s : State) (i : StreamId) : StreamRec := s.banks.active.streams[i]

/-- A port is in the active port_enable list. -/
def State.enabled (s : State) (p : Port) : Bool := inPortList s.part.portEnable p

/-- A port's link state is UP. -/
def State.isUp (s : State) (p : Port) : Bool := s.ports[p].link == .up

/-! ### Notices (R181) -/

/-- ME takes a notice that a block queues: it replaces one of the same kind and subject, is dropped by a full queue
with the overflow mark set, or is appended. -/
def enqueueNotice (t : Topic) (pl : NoticePayload) (m : Management) : Management :=
  match m.notices.find? (fun n => n.topic == t) with
  | some old =>
    { m with
      notices := m.notices.eraseP (fun n => n.topic == t) ++
        [{ number := m.nextNumber, topic := t, payload := pl, repeats := min 255 (old.repeats + 1), age := none }]
      nextNumber := m.nextNumber + 1 }
  | none =>
    if m.notices.length ≥ Config.noticePlaces then { m with overflow := true }
    else
      { m with
        notices := m.notices ++ [{ number := m.nextNumber, topic := t, payload := pl, repeats := 1, age := none }]
        nextNumber := m.nextNumber + 1 }

def queueNotice (t : Topic) (pl : NoticePayload) (s : State) : State := s.modMe (enqueueNotice t pl)

/-- The TIMING notice of a new timing state (R147). -/
def queueTiming (t : TimingState) (s : State) : State := queueNotice .timing (.timing t) s

/-! ### The pool (R92 to R94) -/

/-- A buffer is free when its reference count is 0. -/
def Buffer.isFree (b : Buffer) : Bool := b.refs == 0

/-- POOL's free count: the number of free buffers (R92). -/
def freeCount (s : State) : Nat := s.pool.toList.countP Buffer.isFree

/-- The buffer POOL gives: the free one of the lowest number (which one is not visible from outside, R93;
notes/assumptions/9.md). -/
def takeBuffer (s : State) : Option BufId := s.pool.findFinIdx? Buffer.isFree

/-- The taker stores its cell and sets the reference count (R93). -/
def storeCell (b : BufId) (c : Cell) (refs : Nat) (s : State) : State :=
  s.modBuffer b (fun _ => { cell := c, refs := refs })

/-- One entry referring to the buffer has left a DATA queue (R94). -/
def releaseBuffer (b : BufId) (s : State) : State := s.modBuffer b (fun x => { x with refs := x.refs - 1 })

/-! ### Response slots (R103, R166) -/

/-- The free response slot of the lowest number (notes/assumptions/9.md). -/
def freeSlot? (s : State) : Option RespId := s.me.slots.findFinIdx? (fun o => o.isNone)

def fillSlot (r : RespId) (x : Response) (s : State) : State :=
  s.modMe (fun m => { m with slots := m.slots.set r.val (some x) r.isLt })

def freeSlot (r : RespId) (s : State) : State :=
  s.modMe (fun m => { m with slots := m.slots.set r.val none r.isLt })

/-! ### The queues, the arbiter and the transmitter -/

/-- The cell of a CONTROL entry (R98). A slot that holds no response, which no entry refers to, gives zero bytes. -/
def controlCell (s : State) (e : ControlEntry) : Cell :=
  match e with
  | .response r => s.me.slots[r].elim (buildCell []) responseCell
  | .notice c => noticeCell c
  | .sync id period => syncCell id period

/-- The arbiter's choice on one port: with the transmitter IDLE and the link UP, the head of CONTROL if it holds an
entry, else the head of DATA (R100). The cell is fixed at the start (R101). -/
def arbitrate (p : Port) (s : State) : State :=
  if s.ports[p].tx = .idle ∧ s.ports[p].link = .up then
    match s.ports[p].control, s.ports[p].data with
    | e :: _, _ => s.modPort p (fun q => { q with tx := .sending .control (controlCell s e) })
    | [], b :: _ => s.modPort p (fun q => { q with tx := .sending .data s.pool[b].cell })
    | [], [] => s
  else s

/-- One DATA entry at the tail (R88, R52), and the arbiter's choice at the append. -/
def appendData (b : BufId) (s : State) (p : Port) : State :=
  arbitrate p (s.modPort p (fun q => { q with data := q.data ++ [b] }))

/-- One CONTROL entry at the tail, and the arbiter's choice at the append. -/
def appendControl (p : Port) (e : ControlEntry) (s : State) : State :=
  arbitrate p (s.modPort p (fun q => { q with control := q.control ++ [e] }))

/-- The port is enabled and its link UP. -/
def reachable (s : State) (p : Port) : Bool := s.enabled p && s.isUp p

/-- The port's CONTROL queue has a place (R97). -/
def controlRoom (s : State) (p : Port) : Bool := decide (s.ports[p].control.length < Config.controlPlaces)

/-- What a CONTROL entry returns when it leaves: a RESPONSE frees its slot (R102, R103). -/
def returnEntry (s : State) (e : ControlEntry) : State :=
  match e with
  | .response r => freeSlot r s
  | .notice _ | .sync _ _ => s

/-- The flush of both queues of a port (R104). -/
def flush (p : Port) (s : State) : State :=
  let q := s.ports[p]
  let s1 := q.control.foldl returnEntry (q.data.foldl (fun t b => releaseBuffer b t) s)
  s1.modPort p (fun q => { q with
    control := [], data := [], tx := .idle
    counters := { q.counters with
      egressFlush := satAdd q.counters.egressFlush (q.control.length + q.data.length) } })

/-! ### Destination sets (R79, R51, R81 to R84) -/

/-- Port `p` is a member of the set: its bits without those of the wildcard equal the base (R79). -/
def memberOf (d : Dest) (p : Port) : Bool := (BitVec.ofNat 3 p.val &&& ~~~d.wild) == d.base

/-- The members that are enabled and UP, but for a port that echo suppression removes (R82, R83, R51). -/
def standing (d : Dest) (echoed : Option Port) (s : State) : List Port :=
  allPorts.filter (fun p => memberOf d p && (echoed != some p) && reachable s p)

/-- The port's DATA queue holds 64 entries (R84). -/
def dataFull (s : State) (p : Port) : Bool := decide (s.ports[p].data.length ≥ Config.dataPlaces)

/-- The take set (R51, R84). -/
def takeSet (d : Dest) (echoed : Option Port) (s : State) : List Port :=
  (standing d echoed s).filter (fun p => !dataFull s p)

/-- EGRESS_DROP on each standing member whose DATA queue is full (R51, R84). -/
def countDrops (d : Dest) (echoed : Option Port) (s : State) : State :=
  ((standing d echoed s).filter (dataFull s)).foldl
    (fun t p => t.countPort p (fun c => { c with egressDrop := satInc c.egressDrop })) s

/-- The cell is stored with a count of one per port, and one entry appended on each port (R52, R88). -/
def appendToAll (b : BufId) (c : Cell) (ports : List Port) (s : State) : State :=
  ports.foldl (appendData b) (storeCell b c ports.length s)

end Sys2Proof.Machine
end

