-- ==== Sys2Proof/Machine/Operands.lean ====
section
/-!
DEFINITION. Operands: the schedules of a boundary, and the fields and arguments of a request as they stand in its cell
(R165, R192).
-/

namespace Sys2Proof.Machine

/-- The order in which a boundary's actions are taken: the operand, or the standard order where the operand is not
lawful. -/
def effectiveSchedule (l : List BoundaryAct) : List BoundaryAct := if lawfulSchedule l then l else standardSchedule

/-- The controller tag of a request (bytes 12 and 13). -/
def controllerTag (r : Request) : Half := cellHalf r.cell 12

/-- The transaction tag (bytes 14 and 15). -/
def transactionTag (r : Request) : Half := cellHalf r.cell 14

/-- The request code (byte 16). -/
def requestCode (r : Request) : Byte := cellByte r.cell 16

/-- The reply_id: the low 10 bits of bytes 18 and 19 (R192). -/
def replyId (r : Request) : StreamId := Fin.ofNat 1024 (cellHalf r.cell 18).toNat

/-- An argument byte. -/
def argByte (r : Request) (i : Nat) : Nat := (cellByte r.cell i).toNat

/-- A two-byte argument. -/
def argHalf (r : Request) (i : Nat) : Nat := (cellHalf r.cell i).toNat

/-- An index below `n`, where the argument is one. -/
def indexBelow (n i : Nat) : Option (Fin n) := if h : i < n then some ⟨i, h⟩ else none

end Sys2Proof.Machine
end

