-- ==== Sys2Proof/Machine/Combine.lean ====
section
/-!
DEFINITION. The Combine Engine: contributions (spec/02_combine_groups.md), closes and emissions
(spec/03_closing_a_window.md), and the commands OPEN and CLOSE.
-/

namespace Sys2Proof.Machine

def allSlots : List Slot := [0, 1, 2, 3, 4, 5, 6, 7]

/-- An arrived set without members. -/
def noArrivals : Vector (Option Nat) 8 := Vector.replicate 8 none

/-- Eight invalid hold records. -/
def noHolds : Vector (Option Samples) 8 := Vector.replicate 8 none

/-- The identity of a record's op at each of its positions (R17). -/
def identityResult (r : GroupRec) : Running :=
  match r.op with
  | .sum => .values (List.replicate r.sampleCount 0)
  | .max => .values (List.replicate r.sampleCount Config.minSample)
  | .min => .values (List.replicate r.sampleCount Config.maxSample)
  | .priority => .lead none

/-- A running result of 0 at each position (R18; notes/assumptions/18.md). -/
def zeroResult (r : GroupRec) : Running := .values (List.replicate r.sampleCount 0)

/-! ### Contributions (R22 to R32) -/

/-- The outcome of a contribution (R29). -/
inductive Judgement where
  | accepted | groupOff | early | late | size | duplicate
deriving DecidableEq, Repr

/-- R29's table, first row that applies. -/
def contributionOutcome (r : GroupRec) (a : Accum) (slot : Slot) (sampleCount : Nat) : Judgement :=
  match a.state with
  | .off => .groupOff
  | .idle => .early
  | .done | .spent => .late
  | .opened =>
    if sampleCount ≠ r.sampleCount then .size
    else if a.arrived[slot].isSome then .duplicate
    else .accepted

/-- Values combined position by position. -/
def combineValues (op : CombineOp) (x y : Samples) : Samples :=
  match op with
  | .sum | .priority => List.zipWith (· + ·) x y
  | .max => List.zipWith max x y
  | .min => List.zipWith min x y

/-- The running result after an accepted contribution (R23, R24, R25). -/
def updateRunning (op : CombineOp) (slot : Slot) (v : Samples) (x : Running) : Running :=
  match x with
  | .values w => .values (combineValues op w v)
  | .lead none => .lead (some (slot, v))
  | .lead (some (t, w)) => if slot < t then .lead (some (slot, v)) else .lead (some (t, w))

/-- The accumulator after the acceptance of a slot's shifted samples at a tick (R22, R26, R30). -/
def acceptContribution (op : CombineOp) (slot : Slot) (tick : Nat) (v : Samples) (a : Accum) : Accum :=
  { a with
    arrived := a.arrived.set slot.val (some tick) slot.isLt
    result := updateRunning op slot v a.result
    holds := a.holds.set slot.val (some v) slot.isLt }

/-- The stream counter of a discarded contribution (R29). -/
def countOutcome (o : Judgement) (c : StreamCounters) : StreamCounters :=
  match o with
  | .accepted => c
  | .groupOff => { c with groupOff := satInc c.groupOff }
  | .early => { c with early := satInc c.early }
  | .late => { c with late := satInc c.late }
  | .size => { c with size := satInc c.size }
  | .duplicate => { c with duplicate := satInc c.duplicate }

/-- CE takes one contribution: the stream, the feed of its record, and the samples of its cell (R28, R29, R30). -/
def contribute (stream : StreamId) (f : Feed) (sampleCount : Nat) (samples : Samples) (s : State) : State :=
  match contributionOutcome (s.groupRec f.group) s.groups[f.group] f.slot sampleCount with
  | .accepted =>
    s.modGroup f.group
      (acceptContribution (s.groupRec f.group).op f.slot s.pt.tick (samples.map (shiftSample f.shift)))
  | o => s.countStream stream (countOutcome o)

/-! ### Forming the output (R42 to R46) -/

/-- The number of slots in the arrived set. -/
def arrivals (a : Accum) : Nat := a.arrived.toList.countP (·.isSome)

/-- The missing slots that fill HOLD brings in, with their held samples (R43). -/
def filledSlots (r : GroupRec) (a : Accum) : List (Slot × Samples) :=
  match r.fill with
  | .identity => []
  | .hold =>
    allSlots.filterMap (fun s =>
      if s.val < r.contributors ∧ a.arrived[s] = none then a.holds[s].map (fun v => (s, v)) else none)

/-- The value per position of the arrived slots. -/
def runningValues (r : GroupRec) (x : Running) : Samples :=
  match x with
  | .values v => v
  | .lead _ => List.replicate r.sampleCount 0

/-- The participant of the lowest slot (R46). -/
def lowestSlot (l : List (Slot × Samples)) : Option (Slot × Samples) :=
  l.foldl (fun best x => match best with
    | none => some x
    | some y => if x.1 < y.1 then some x else some y) none

/-- The participants of a PRIORITY close: the lowest arrived slot and the filled ones (R46). -/
def priorityParticipants (x : Running) (fills : List (Slot × Samples)) : List (Slot × Samples) :=
  match x with
  | .lead (some y) => y :: fills
  | .lead none | .values _ => fills

/-- The samples of a formed output (R44, R45, R46). -/
def formOutput (r : GroupRec) (a : Accum) : Samples :=
  let fills := filledSlots r a
  match r.op with
  | .sum => (fills.foldl (fun x f => combineValues .sum x f.2) (runningValues r a.result)).map saturateSample
  | .max | .min =>
    if arrivals a = 0 ∧ fills = [] then List.replicate r.sampleCount 0
    else fills.foldl (fun x f => combineValues r.op x f.2) (runningValues r a.result)
  | .priority => ((lowestSlot (priorityParticipants a.result fills)).map (·.2)).getD (List.replicate r.sampleCount 0)

/-! ### Emission (R49 to R52) -/

/-- The output cell of a group as it stands at its close (R49). -/
def groupCell (g : GroupId) (samples : Samples) (short : Bool) (s : State) : Cell :=
  outputCell (outputFlags short s.groups[g].cut s.groups[g].filled) (s.groupRec g).outStream s.groups[g].emission
    (s.groupRec g).sampleCount s.pt.period samples

/-- An emission: a buffer first, then the take set, then the entries (R50, R51, R52). A buffer that no port takes goes back
with its old contents: R50 builds the cell in it, and the contents of a free buffer take no part in any later cell (R92)
(DESIGN CHOICE: notes/assumptions/24.md). -/
def emit (g : GroupId) (samples : Samples) (short : Bool) (s : State) : State :=
  match takeBuffer s with
  | none => queueNotice (.groupLost g) .nothing (s.countGroup g (fun c => { c with lost := satInc c.lost }))
  | some b =>
    let d := (s.groupRec g).dest
    let t := countDrops d none s
    match takeSet d none s with
    | [] => t.countGroup g (fun c => { c with noDest := satInc c.noDest })
    | p :: ps =>
      (appendToAll b (groupCell g samples short s) (p :: ps) t).modGroup g (fun a => { a with
        emission := a.emission + 1
        counters := { a.counters with emitted := satInc a.counters.emitted } })

/-! ### The close (R40 to R48, R54) -/

/-- A forced close sets CUT and counts it (R41). -/
def markCut (g : GroupId) (s : State) : State :=
  s.modGroup g (fun a => { a with cut := true, counters := { a.counters with cut := satInc a.counters.cut } })

/-- A close whose quorum is met: FILLED where a slot is filled, and the emission (R43, R56). -/
def formedClose (g : GroupId) (s : State) : State :=
  let samples := formOutput (s.groupRec g) s.groups[g]
  if filledSlots (s.groupRec g) s.groups[g] = [] then emit g samples false s
  else
    emit g samples false (s.modGroup g (fun a => { a with
      filled := true, counters := { a.counters with filled := satInc a.counters.filled } }))

/-- SHORT counts, and GROUP_SHORT is queued where the record asks for it (R47, R48). -/
def noteShort (g : GroupId) (s : State) : State :=
  let t := s.countGroup g (fun c => { c with short := satInc c.short })
  if (s.groupRec g).notifyShort then queueNotice (.groupShort g) .nothing t else t

/-- A close with too few arrivals (R47). -/
def shortClose (g : GroupId) (s : State) : State :=
  match (s.groupRec g).onShort with
  | .suppress => (noteShort g s).countGroup g (fun c => { c with suppressed := satInc c.suppressed })
  | .mute => emit g (List.replicate (s.groupRec g).sampleCount 0) true (noteShort g s)

/-- The state a close ends in (R54). -/
def afterClose (m : GroupMode) : AccState :=
  match m with
  | .continuous => .done
  | .oneShot => .spent

/-- CE takes a CLOSE, ordinary or forced: an accumulator that is not OPEN is left as it is (R40, R41). -/
def closeGroup (forced : Bool) (g : GroupId) (s : State) : State :=
  if s.groups[g].state = .opened then
    let t := if forced then markCut g s else s
    let u := if arrivals s.groups[g] ≥ (s.groupRec g).quorum then formedClose g t else shortClose g t
    u.modGroup g (fun a => { a with state := afterClose (s.groupRec g).mode })
  else s

/-! ### OPEN and CLOSE -/

/-- CE takes an OPEN (R17). -/
def openGroup (g : GroupId) (s : State) : State :=
  if s.groups[g].state = .idle then
    s.modGroup g (fun a => { a with
      state := .opened, arrived := noArrivals, result := identityResult (s.groupRec g), filled := false, cut := false })
  else s

/-- PT produces window events for the group: enabled, and its accumulator not SPENT (R9, R10). -/
def scheduled (s : State) (g : GroupId) : Bool := (s.groupRec g).enabled && s.groups[g].state != .spent

/-- An OPEN of the group is due at the current tick (R9). -/
def openDue (s : State) (g : GroupId) : Bool := scheduled s g && (s.groupRec g).openTick == s.pt.tick

/-- A CLOSE of the group is due at the current tick (R10). -/
def closeDue (s : State) (g : GroupId) : Bool := scheduled s g && (s.groupRec g).closeTick == s.pt.tick

/-- OPEN (R9, R17). One that is not due is not produced (notes/assumptions/1.md). -/
def execOpenWindow (g : GroupId) (s : State) : Host.Outcome State Fault Refusal :=
  .next (if openDue s g then openGroup g s else s)

/-- CLOSE (R10, R40). One that is not due is not produced (notes/assumptions/1.md). -/
def execCloseWindow (g : GroupId) (s : State) : Host.Outcome State Fault Refusal :=
  .next (if closeDue s g then closeGroup false g s else s)

end Sys2Proof.Machine
end

