-- ==== Sys2Proof/Machine/Links.lean ====
section
/-!
DEFINITION. The Port Interface: link states, departures from UP, and the commands SIGNAL_DETECTED, SIGNAL_LOST, ALIGNED,
UNALIGNED and TX_COMPLETE (spec/09_cell_link_ports.md; spec/06_cell_buffers_and_egress_queues.md).
-/

namespace Sys2Proof.Machine

/-- TF takes the loss of its timing port's link (R142). -/
def timingPortLost (s : State) : State :=
  if s.tf.state = .locked then queueTiming .holdover (s.modTf (fun f => { f with state := .holdover })) else s

/-- PORT's part of a departure from UP for `target`: LINK_DOWNS, the flush, the error run (R153, R104). -/
def dropLink (p : Port) (target : Link) (s : State) : State :=
  (flush p s).modPort p (fun q => { q with
    link := target, errorRun := 0
    counters := { q.counters with linkDowns := satInc q.counters.linkDowns } })

/-- The LINK notice of a port (R159). -/
def queueLink (p : Port) (up : Bool) (s : State) : State := queueNotice (.link p) (.link up) s

/-- TF is told when the port is the active timing port (R153). -/
def tellFollower (p : Port) (s : State) : State := if s.part.timingPort = p then timingPortLost s else s

/-- A port's link leaves UP (R153); the two notices are queued in the given order. -/
def leaveUp (p : Port) (target : Link) (order : LossOrder) (s : State) : State :=
  match order with
  | .linkFirst => tellFollower p (queueLink p false (dropLink p target s))
  | .timingFirst => queueLink p false (tellFollower p (dropLink p target s))

/-- SIGNAL_DETECTED (R151). -/
def execSignalDetected (p : Port) (s : State) : Host.Outcome State Fault Refusal :=
  .next (s.modPort p (fun q => { q with
    signal := true
    link := if q.link = .down ∧ s.enabled p then .training else q.link }))

/-- SIGNAL_LOST (R151, R153). -/
def execSignalLost (p : Port) (order : LossOrder) (s : State) : Host.Outcome State Fault Refusal :=
  let t := s.modPort p (fun q => { q with signal := false })
  match s.ports[p].link with
  | .up => .next (leaveUp p .down order t)
  | .training => .next (t.modPort p (fun q => { q with link := .down }))
  | .down => .next t

/-- ALIGNED (R152). -/
def execAligned (p : Port) (s : State) : Host.Outcome State Fault Refusal :=
  if s.ports[p].link = .training then
    .next (queueLink p true (s.modPort p (fun q => { q with link := .up, errorRun := 0 })))
  else .next s

/-- UNALIGNED (R154). -/
def execUnaligned (p : Port) (order : LossOrder) (s : State) : Host.Outcome State Fault Refusal :=
  if s.ports[p].link = .up then .next (leaveUp p .training order s) else .next s

/-- TX_CELLS counts and the transmitter becomes IDLE (R102). -/
def endTransmission (p : Port) (s : State) : State :=
  s.modPort p (fun q => { q with tx := .idle, counters := { q.counters with txCells := satInc q.counters.txCells } })

/-- A transmission from CONTROL completes (R102, R103). -/
def completeControl (p : Port) (s : State) : State :=
  match s.ports[p].control with
  | e :: rest => arbitrate p (returnEntry (endTransmission p (s.modPort p (fun q => { q with control := rest }))) e)
  | [] => s

/-- A transmission from DATA completes (R102, R94). -/
def completeData (p : Port) (s : State) : State :=
  match s.ports[p].data with
  | b :: rest => arbitrate p (releaseBuffer b (endTransmission p (s.modPort p (fun q => { q with data := rest }))))
  | [] => s

/-- TX_COMPLETE (R102). An IDLE transmitter has no transmission to complete (notes/assumptions/1.md). -/
def execTxComplete (p : Port) (s : State) : Host.Outcome State Fault Refusal :=
  match s.ports[p].tx with
  | .idle => .next s
  | .sending .control _ => .next (completeControl p s)
  | .sending .data _ => .next (completeData p s)

end Sys2Proof.Machine
end

