-- ==== Sys2Proof/Machine/Classify.lean ====
section
/-!
DEFINITION. The Ingress Classifier and the Replication Unit: the command CELL_RECEIVED
(spec/04_stream_table_and_cell_classification.md, spec/05_destination_sets_and_replication.md, R156).
-/

namespace Sys2Proof.Machine

/-! ### Replication (R81 to R88) -/

/-- REP takes the forwarding part of a cell: the take set, a buffer, the entries. -/
def forwardCell (stream : StreamId) (d : Dest) (r : StreamRec) (p : Port) (c : Cell) (s : State) : State :=
  let echoed := if r.echo = .suppress then some p else none
  let t := countDrops d echoed s
  match takeSet d echoed s with
  | [] => t.countStream stream (fun x => { x with noDest := satInc x.noDest })
  | q :: qs =>
    match takeBuffer s with
    | none => queueNotice .poolEmpty .nothing (t.countStream stream (fun x => { x with poolDrop := satInc x.poolDrop }))
    | some b => appendToAll b (r.rename.elim c (renameCell c)) (q :: qs) t

/-! ### Hand-off (R71, R73) -/

/-- The contribution part: one for a DATA cell, else KIND counts (R73). -/
def contributeCell (stream : StreamId) (f : Feed) (c : Cell) (s : State) : State :=
  if cellKind c = kindData then
    contribute stream f (cellSampleCount c) (cellSamples c (cellSampleCount c)) s
  else s.countStream stream (fun x => { x with kind := satInc x.kind })

/-- An accepted cell is handed on by its record's action (R73). -/
def handOn (stream : StreamId) (r : StreamRec) (p : Port) (c : Cell) (s : State) : State :=
  match r.action with
  | .drop => s
  | .forward d => forwardCell stream d r p c s
  | .contribute f => contributeCell stream f c s
  | .both d f => contributeCell stream f c (forwardCell stream d r p c s)

/-- ACCEPTED counts, and the cell is handed on (R71, R73). -/
def acceptCell (stream : StreamId) (r : StreamRec) (p : Port) (c : Cell) (s : State) : State :=
  handOn stream r p c (s.countStream stream (fun x => { x with accepted := satInc x.accepted }))

/-! ### Lookup (R68 to R70) -/

/-- What the sequence stage finds (R70). -/
inductive SequenceFinding where
  | unchecked | first | repeated | inOrder | gap
deriving DecidableEq, Repr

/-- The sequence stage's comparison (R70). -/
def judgeSequence (r : StreamRec) (last : Option Byte) (c : Cell) : SequenceFinding :=
  if cellKind c ≠ kindData ∨ r.seqCheck = false then .unchecked
  else
    match last with
    | none => .first
    | some n =>
      if cellSequence c = n then .repeated
      else if cellSequence c = n + 1 then .inOrder
      else .gap

/-- The sequence stage (R70). -/
def sequenceStage (stream : StreamId) (r : StreamRec) (p : Port) (c : Cell) (s : State) : State :=
  let record := fun t : State => t.modStream stream (fun x => { x with lastSeq := some (cellSequence c) })
  match judgeSequence r s.streams[stream].lastSeq c with
  | .unchecked => acceptCell stream r p c s
  | .repeated => s.countStream stream (fun x => { x with repeated := satInc x.repeated })
  | .first | .inOrder => acceptCell stream r p c (record s)
  | .gap => acceptCell stream r p c (record (s.countStream stream (fun x => { x with gap := satInc x.gap })))

/-- A guard refuses the ingress port (R69). -/
def guardRefuses (r : StreamRec) (p : Port) : Bool :=
  match r.guard with
  | none => false
  | some g => g != p

/-- Lookup, DROP and guard (R68, R69). -/
def lookUp (stream : StreamId) (p : Port) (c : Cell) (s : State) : State :=
  let r := s.streamRec stream
  if r.action = .drop then s.countStream stream (fun x => { x with dropped := satInc x.dropped })
  else if guardRefuses r p then s.countStream stream (fun x => { x with guard := satInc x.guard })
  else sequenceStage stream r p c s

/-! ### The stages before lookup (R63 to R66) -/

/-- The stream a cell names, when its header passes the header stage (R63, R190). -/
def headerStream (c : Cell) : Option StreamId :=
  let kindOk := decide (1 ≤ (cellKind c).toNat) && decide ((cellKind c).toNat ≤ 5)
  let countOk := cellKind c != kindData || (decide (1 ≤ cellSampleCount c) && decide (cellSampleCount c ≤ 16))
  if kindOk && countOk then indexBelow 1024 (cellStreamId c).toNat else none

/-- A SYNC that is handed to TF (R64). -/
def divertsSync (s : State) (p : Port) (c : Cell) : Bool :=
  cellKind c == kindSync && s.part.source == .follow && s.part.timingPort == p

/-- A request for this part (R65, R66). -/
def isOwnRequest (s : State) (stream : StreamId) (c : Cell) : Bool :=
  cellKind c == kindRequest && stream == s.part.mgmtId

/-- The management stage for a request of this part (R65, R66). -/
def takeInRequest (p : Port) (c : Cell) (s : State) : State :=
  if inPortList s.part.mgmtPorts p then
    if s.me.requests.length < Config.requestPlaces then
      s.modMe (fun m => { m with requests := m.requests ++ [{ cell := c, port := p }] })
    else s.countPort p (fun x => { x with mgmtDrop := satInc x.mgmtDrop })
  else s.countPort p (fun x => { x with mgmtDenied := satInc x.mgmtDenied })

/-- CLS takes an arrival whole (R62). -/
def classify (p : Port) (c : Cell) (s : State) : State :=
  match headerStream c with
  | none => s.countPort p (fun x => { x with rxFormat := satInc x.rxFormat })
  | some stream =>
    if divertsSync s p c then s.modTf (fun f => { f with handed := f.handed ++ [cellPeriod c] })
    else if isOwnRequest s stream c then takeInRequest p c s
    else lookUp stream p c s

/-! ### Receiving (R156, R157) -/

/-- A failed check: RX_CHECK and the error run; the eighth in a row takes the link from UP (R156, R154). -/
def failCheck (p : Port) (order : LossOrder) (s : State) : State :=
  let t := s.modPort p (fun q => { q with
    errorRun := q.errorRun + 1, counters := { q.counters with rxCheck := satInc q.counters.rxCheck } })
  if t.ports[p].errorRun ≥ Config.errorRunLimit then leaveUp p .training order t else t

/-- A good check: RX_CELLS, and the error run is 0 (R156). -/
def passCheck (p : Port) (s : State) : State :=
  s.modPort p (fun q => { q with errorRun := 0, counters := { q.counters with rxCells := satInc q.counters.rxCells } })

/-- CELL_RECEIVED (R156). A port that is not UP forms no cell (R157). -/
def execCellReceived (p : Port) (c : Cell) (order : LossOrder) (s : State) : Host.Outcome State Fault Refusal :=
  if s.ports[p].link = .up then
    if checkGood c then .next (classify p c (passCheck p s)) else .next (failCheck p order s)
  else .next s

end Sys2Proof.Machine
end

