-- ==== Sys2Proof/Machine/Period.lean ====
section
/-!
DEFINITION. The boundary and the step as every block takes them (R7, R12): the swap (spec/07_table_banks_and_commit.md),
the new period (spec/01_the_period_and_its_windows.md), and the actions of CE, TF and ME; with the commands TICK_END,
BOUNDARY, CLAIM_EXPIRED and SYNC_MISSING.
-/

namespace Sys2Proof.Machine

/-! ### The swap (R122 to R125) -/

/-- A touched group's accumulator at a swap (R20). -/
def resetTouchedGroup (r : GroupRec) (a : Accum) : Accum :=
  { a with
    state := if r.enabled then .idle else .off
    arrived := noArrivals
    result := if r.enabled then identityResult r else zeroResult r
    filled := false
    cut := false
    holds := noHolds }

/-- The roles exchange and the copy begins (R122); touched groups and streams are reset (R20, R77). -/
def swapBanks (s : State) : State :=
  { s with
    banks := { s.banks with
      active := s.banks.shadow, shadow := s.banks.active, state := .refresh, copyPos := 0, copyAge := 0 }
    groups := Vector.ofFn (fun g =>
      if s.banks.touchedGroups[g] then resetTouchedGroup s.banks.shadow.groups[g] s.groups[g] else s.groups[g])
    streams := Vector.ofFn (fun i =>
      if s.banks.touchedStreams[i] then { s.streams[i] with lastSeq := none } else s.streams[i]) }

/-- What the actions of a boundary must know of the swap it carried. -/
structure Swap where
  taken : Bool
  old : PartRec
  partTouched : Bool
  /-- The old record's timing port was UP and the new port_enable list leaves it out (R144). -/
  timingLost : Bool
deriving DecidableEq, Repr

/-- The swap that a boundary taken in state `s` carries. -/
def swapOf (s : State) : Swap :=
  { taken := s.banks.state == .armed
    old := s.part
    partTouched := s.banks.touchedPart
    timingLost := s.banks.state == .armed && s.isUp s.part.timingPort
      && !inPortList s.banks.shadow.part.portEnable s.part.timingPort }

/-- PORT p at a swap (R155). -/
def followPortEnable (old : PortList) (p : Port) (s : State) : State :=
  if inPortList old p && !s.enabled p then
    match s.ports[p].link with
    | .up => queueLink p false (dropLink p .down s)
    | .training => s.modPort p (fun q => { q with link := .down })
    | .down => s
  else if !inPortList old p && s.enabled p then
    s.modPort p (fun q => { q with link := if q.link = .down ∧ q.signal then .training else q.link })
  else s

/-- The new timing state of R143, and whether the counters are set to 0. -/
def reevaluated (old new : PartRec) (t : TimingState) : TimingState × Bool :=
  match old.source, new.source with
  | .free, .free => (.free, false)
  | .free, .follow => (.acquire, true)
  | .follow, .free => (.free, true)
  | .follow, .follow => if old.timingPort = new.timingPort then (t, false) else (.acquire, true)

/-- TF's re-evaluation at a swap of a touched Part record (R143). -/
def reevaluate (old : PartRec) (s : State) : State :=
  let r := reevaluated old s.part s.tf.state
  let t := s.modTf (fun f =>
    if r.2 then { f with state := r.1, miss := 0, silent := 0, seen := false } else { f with state := r.1 })
  if r.1 = s.tf.state then t else queueTiming r.1 t

/-- The swap has put TF into ACQUIRE from FREE or by a change of timing_port, so no silent check is made (R141;
notes/assumptions/13.md). -/
def skipsSilentCheck (w : Swap) (new : PartRec) : Bool :=
  w.taken && w.partTouched && new.source == .follow
    && (w.old.source == .free || w.old.timingPort != new.timingPort)

/-! ### TF's, TBC's and ME's actions -/

/-- LOCKED becomes HOLDOVER by silence (R141). -/
def loseLockBySilence (s : State) : State :=
  queueTiming .holdover (s.modTf (fun f => { f with state := .holdover, syncMissing := satInc f.syncMissing }))

/-- The silent counter has reached 8 in LOCKED (R141). -/
def syncMissingDue (s : State) : Bool := s.tf.state == .locked && decide (Config.silentLimit ≤ s.tf.silent.toNat)

/-- TF's silent check (R141). -/
def silentCheck (s : State) : State :=
  if s.tf.state = .free then s
  else
    let t := if s.tf.seen then s else s.modTf (fun f => { f with silent := satInc f.silent })
    (if syncMissingDue t then loseLockBySilence t else t).modTf (fun f => { f with seen := false })

/-- TF's SYNC entry on one port (R145). -/
def placeSync (s : State) (p : Port) : State :=
  if inPortList s.part.syncOut p && reachable s p then
    if controlRoom s p then appendControl p (.sync s.part.syncId s.pt.period) s
    else s.countPort p (fun c => { c with syncSkip := satInc c.syncSkip })
  else s

/-- The claim ends: no holder, no cache, CLAIM_EXPIRED naming the old tag (R171). -/
def expireClaim (tag : Half) (s : State) : State :=
  queueNotice (.claimExpired tag) .nothing
    (s.modMe (fun m => { m with claim := { m.claim with holder := none, lease := 0 }, cache := none }))

/-- The lease count (R171). -/
def countLease (s : State) : State :=
  match s.me.claim.holder with
  | none => s
  | some tag =>
    let t := s.modMe (fun m => { m with claim := { m.claim with lease := m.claim.lease - 1 } })
    if t.me.claim.lease = 0 then expireClaim tag t else t

/-- Every age that is a number advances by one, saturating at 65535 (R182). -/
def ageNotices (s : State) : State :=
  s.modMe (fun m => { m with notices := m.notices.map (fun n => { n with age := n.age.map (fun a => min 65535 (a + 1)) }) })

/-- A notice is due: its age is never, or at least `resend` (R182). -/
def noticeDue (resend : Nat) (n : Notice) : Bool :=
  match n.age with
  | none => true
  | some a => decide (resend ≤ a)

/-- The first due notice gets age 0. -/
def markSent (resend : Nat) (l : List Notice) : List Notice :=
  match l with
  | [] => []
  | n :: ns => if noticeDue resend n then { n with age := some 0 } :: ns else n :: markSent resend ns

/-- ME sends at most one notice (R183). -/
def sendNotice (s : State) : State :=
  match s.me.claim.holder, s.me.notices.find? (noticeDue s.part.resend) with
  | some _, some n =>
    if reachable s s.me.claim.port && controlRoom s s.me.claim.port then
      appendControl s.me.claim.port
        (.notice { notice := n, streamId := s.me.claim.noticeId, period := s.pt.period, overflow := s.me.overflow })
        (s.modMe (fun m => { m with notices := markSent s.part.resend m.notices, overflow := false }))
    else s
  | _, _ => s

/-- One action of a boundary or step. -/
def boundaryAct (w : Swap) (s : State) (a : BoundaryAct) : State :=
  match a with
  | .commitApplied => if w.taken then queueNotice .commitApplied .nothing s else s
  | .reevaluate => if w.taken && w.partTouched then reevaluate w.old s else s
  | .timingLoss => if w.timingLost then timingPortLost s else s
  | .port p => if w.taken then followPortEnable w.old.portEnable p s else s
  | .lease => countLease s
  | .silent => if skipsSilentCheck w s.part then s else silentCheck s
  | .syncOut => allPorts.foldl placeSync s
  | .send => sendNotice (ageNotices s)

/-! ### The new period (R3, R5, R6, R12) -/

/-- What begins a period: the end of the last tick, or a step with the SYNC's number. -/
inductive BoundaryKind where
  | ordinary
  | step (number : Half)
deriving DecidableEq, Repr

/-- The accumulator's sum with F, and the base of the new period (R3). -/
def newBase (r : PartRec) (phase : Nat) : Nat := if phase + r.fraction ≥ 16 then r.baseLen + 1 else r.baseLen

/-- What the accumulator keeps (R3). -/
def newPhase (r : PartRec) (phase : Nat) : Nat :=
  if phase + r.fraction ≥ 16 then phase + r.fraction - 16 else phase + r.fraction

/-- The length an adjustment gives (R5). -/
def adjustedLength (r : PartRec) (base : Nat) (adj : Option Int) : Nat :=
  match adj, r.source with
  | none, _ | some _, .free => base
  | some d, .follow =>
    let m : Int := r.tolerance
    let x : Int := base + max (-m) (min m d)
    if x < Config.minPeriod then Config.minPeriod
    else if x > Config.maxPeriod then Config.maxPeriod
    else x.toNat

/-- PT begins a period under the Part record `r`, which is the one active after any swap (R2, R5, R6, R12). -/
def beginPeriod (k : BoundaryKind) (r : PartRec) (pt : PeriodTimer) : PeriodTimer :=
  { tick := 0
    phase := newPhase r pt.phase
    pendingAdj := none
    pendingNum := none
    stepRequest := none
    len := match k with
      | .ordinary => adjustedLength r (newBase r pt.phase) pt.pendingAdj
      | .step _ => newBase r pt.phase
    period := match k with
      | .ordinary => pt.pendingNum.getD (pt.period + 1)
      | .step n => n }

/-- DONE returns to IDLE (R19). -/
def doneToIdle (s : State) : State :=
  { s with groups := Vector.ofFn (fun g =>
      if s.groups[g].state = .done then { s.groups[g] with state := .idle } else s.groups[g]) }

/-- The banks swapped when a commit is armed (R122). -/
def afterSwap (s : State) : State := if s.banks.state = .armed then swapBanks s else s

/-- The swap, the new period under the Part record active after it, and DONE to IDLE (R7, R12, R19, R122). -/
def enterPeriod (k : BoundaryKind) (s : State) : State :=
  doneToIdle ((afterSwap s).modPt (beginPeriod k (afterSwap s).part))

/-- A boundary or step as all blocks take it: the new period entered, then the actions in their order (R7, R12). -/
def takeBoundary (k : BoundaryKind) (schedule : List BoundaryAct) (s : State) : State :=
  (effectiveSchedule schedule).foldl (boundaryAct (swapOf s)) (enterPeriod k s)

/-- The swap that the next boundary or step makes changes source or timing_port (R64, R135). -/
def swapMovesTiming (s : State) : Bool :=
  s.banks.state == .armed && (s.banks.shadow.part.source != s.banks.active.part.source ||
    s.banks.shadow.part.timingPort != s.banks.active.part.timingPort)

/-- A SYNC that CLS has diverted by the old record is taken before a swap that changes the diversion (R135), so a step
with such a swap waits for it (notes/assumptions/20.md). -/
def stepWaits (s : State) : Bool := swapMovesTiming s && !s.tf.handed.isEmpty

/-! ### When time passes (notes/assumptions/2.md) -/

/-- A window event due at the current tick has not been taken (R9, R10): an OPEN of an IDLE accumulator or a CLOSE of
an OPEN one. -/
def windowPending (s : State) (g : GroupId) : Bool :=
  (openDue s g && s.groups[g].state == .idle) || (closeDue s g && s.groups[g].state == .opened)

/-- The 64 groups. -/
def allGroups : List GroupId := List.finRange 64

/-- The OK response to a RESET (R186). -/
def isResetResponse (o : Option Response) : Bool :=
  match o with
  | none => false
  | some r => r.code == resetCode && r.status == .ok

/-- The soft reset has begun: RESETTING is set and the RESET response has left or was discarded (R103, R186). -/
def softResetDue (s : State) : Bool := s.me.resetting && !s.me.slots.toList.any isResetResponse

/-- ME can take the request at the head of its queue (R164). -/
def requestDue (s : State) : Bool := !s.me.requests.isEmpty && (freeSlot? s).isSome && !s.me.resetting

/-- The current tick can end: no window event of it, no SYNC that TF has still to take (R134), no step asked of PT (R12), no begun
soft reset (R103) and no request that ME can take (R164) is still to be taken, and the refresh is within its bound
(R127). -/
def tickMayEnd (s : State) : Bool :=
  !allGroups.any (windowPending s) && s.tf.handed.isEmpty && s.pt.stepRequest.isNone && !softResetDue s && !requestDue s
    && (s.banks.state != .refresh || decide (s.banks.copyAge < Config.refreshLimit))

/-- A tick has ended for the bound of the refresh (R127). -/
def ageCopy (s : State) : State :=
  if s.banks.state = .refresh then s.modBanks (fun b => { b with copyAge := b.copyAge + 1 }) else s

/-- TICK_END (R1). -/
def execTickEnd (s : State) : Host.Outcome State Fault Refusal :=
  if tickMayEnd s ∧ s.pt.tick + 1 < s.pt.len then
    .next ((ageCopy s).modPt (fun p => { p with tick := p.tick + 1 }))
  else .next s

/-- BOUNDARY (R7). -/
def execBoundary (schedule : List BoundaryAct) (s : State) : Host.Outcome State Fault Refusal :=
  if tickMayEnd s ∧ ¬ s.pt.tick + 1 < s.pt.len then .next (takeBoundary .ordinary schedule (ageCopy s)) else .next s

/-- CLAIM_EXPIRED (R171): the end of a claim whose lease stands at 0. The lease count of a boundary or step takes it
within that event (notes/assumptions/6.md). -/
def execClaimExpired (s : State) : Host.Outcome State Fault Refusal :=
  match s.me.claim.holder with
  | some tag => if s.me.claim.lease = 0 then .next (expireClaim tag s) else .next s
  | none => .next s

/-- SYNC_MISSING (R141): the lock ends by silence. The silent check of a boundary or step takes it within that event
(notes/assumptions/6.md). -/
def execSyncMissing (s : State) : Host.Outcome State Fault Refusal :=
  if syncMissingDue s then .next (loseLockBySilence s) else .next s

end Sys2Proof.Machine
end

