-- ==== Sys2Proof/Machine/Follow.lean ====
section
/-!
DEFINITION. The Timing Follower taking the SYNCs handed to it: the command SYNC_TAKEN (spec/08_following_an_upstream_period.md), with the
step it can ask PT for (R12).
-/

namespace Sys2Proof.Machine

/-- The offset of a SYNC taken at tick `t` of a period of `len` ticks (R134). -/
def syncOffset (t len : Nat) : Int := if t < len / 2 then (t : Int) else (t : Int) - (len : Int)

/-- The offset lies within the tolerance (R134). -/
def inTolerance (r : PartRec) (d : Int) : Bool := decide (d.natAbs ≤ r.tolerance)

/-- Every SYNC: the offset is recorded, the seen mark set, the silent counter 0 (R134). -/
def recordSync (d : Int) (f : Follower) : Follower := { f with lastOffset := some d, seen := true, silent := 0 }

/-- The number a SYNC of offset `d` is expected to carry (R138). -/
def expectedNumber (period : Half) (d : Int) : Half := if 0 ≤ d then period else period + 1

/-- The number the next period is to take (R138). -/
def nextNumber (n : Half) (d : Int) : Half := if 0 ≤ d then n + 1 else n

/-- An in-tolerance SYNC in LOCKED or HOLDOVER (R137, R138). -/
def followSync (n : Half) (d : Int) (s : State) : State :=
  let t := (s.modPt (fun p => { p with pendingAdj := some d, pendingNum := some (nextNumber n d) })).modTf (fun f =>
    { f with
      syncInTol := satInc f.syncInTol
      miss := 0
      numberSlip := if n = expectedNumber s.pt.period d then f.numberSlip else satInc f.numberSlip
      state := .locked })
  if s.tf.state = .holdover then queueTiming .locked t else t

/-- TF gives up: ACQUIRE, the miss counter 0 (R139, R140). -/
def giveUpLock (s : State) : State := queueTiming .acquire (s.modTf (fun f => { f with state := .acquire, miss := 0 }))

/-- An out-of-tolerance SYNC in LOCKED (R139). -/
def missSync (s : State) : State :=
  let t := s.modTf (fun f => { f with syncOutTol := satInc f.syncOutTol, miss := satInc f.miss })
  if Config.missLimit ≤ t.tf.miss.toNat then giveUpLock t else t

/-- An out-of-tolerance SYNC in HOLDOVER (R140). -/
def refuseSync (s : State) : State := giveUpLock (s.modTf (fun f => { f with syncOutTol := satInc f.syncOutTol }))

/-- Forced closes in the given order; a group that is not OPEN is left as it is (R12, R41). -/
def forceCloses (closes : List GroupId) (s : State) : State := closes.foldl (fun t g => closeGroup true g t) s

/-- A SYNC taken in ACQUIRE: TF asks PT for a step with the SYNC's number and becomes LOCKED (R136). -/
def askForStep (n : Half) (s : State) : State :=
  queueTiming .locked ((s.modTf (fun f => { f with state := .locked, miss := 0, steps := satInc f.steps })).modPt
    (fun p => { p with stepRequest := some n }))

/-- TF acts on a SYNC by its state, with the offset already recorded (R134). In FREE, where no SYNC is handed over (R133),
nothing further happens. -/
def actOnSync (n : Half) (d : Int) (s : State) : State :=
  match s.tf.state with
  | .free => s
  | .acquire => askForStep n s
  | .locked => if inTolerance s.part d then followSync n d s else missSync s
  | .holdover => if inTolerance s.part d then followSync n d s else refuseSync s

/-- TF takes the first of the SYNCs handed to it, whole, with the requests it hands to PT, against the state the one before
it left (R134). A second request for a step takes the place of the first (notes/assumptions/20.md). -/
def takeSync (s : State) : State :=
  match s.tf.handed with
  | [] => s
  | n :: rest =>
    let d := syncOffset s.pt.tick s.pt.len
    actOnSync n d (s.modTf (fun f => { recordSync d f with handed := rest }))

/-- TF's part of one SYNC_TAKEN: a SYNC is taken where none of the step's work is outstanding, or where `closes` asks for
nothing else (notes/assumptions/14.md). -/
def takeSyncFirst (closes : ForcedCloses) (s : State) : State :=
  match closes with
  | .sync => takeSync s
  | .only _ | .all _ => if s.pt.stepRequest = none then takeSync s else s

/-- PT carries on the step it is asked for (R12): only the forced closes named, or those of every OPEN group and then the
step as a boundary. A step that waits for TF leaves it at the forced closes (R135). -/
def carryStep (closes : ForcedCloses) (schedule : List BoundaryAct) (s : State) : State :=
  match s.pt.stepRequest with
  | none => s
  | some n =>
    match closes with
    | .sync => s
    | .only groups => forceCloses groups s
    | .all first =>
      let t := forceCloses (first ++ allGroups) s
      if stepWaits s then t else takeBoundary (.step n) schedule t

/-- SYNC_TAKEN (R134, R12). With no SYNC to take and no step to carry on it changes nothing (notes/assumptions/1.md). -/
def execSyncTaken (closes : ForcedCloses) (schedule : List BoundaryAct) (s : State) :
    Host.Outcome State Fault Refusal :=
  .next (carryStep closes schedule (takeSyncFirst closes s))

end Sys2Proof.Machine
end

