-- ==== Sys2Proof/Machine/Tables.lean ====
section
/-!
DEFINITION. The Table Bank Controller: shadow writes (R114 to R117), the commit checks (R119), COMMIT and CANCEL (R118,
R121), the reads of both banks (R129), and the refresh with its commands REFRESH_COPY and REFRESH_COMPLETE (R127).
-/

namespace Sys2Proof.Machine

/-- What a request gives back: status, data bytes from 18 on, and the state with its effects. -/
structure Answer where
  status : Status
  data : List Byte
  state : State

/-- An answer without data and without effects. -/
def refuse (st : Status) (s : State) : Answer := { status := st, data := [], state := s }

/-- OK with data and without effects. -/
def report (data : List Byte) (s : State) : Answer := { status := .ok, data := data, state := s }

/-- OK without data, with effects. -/
def done (s : State) : Answer := { status := .ok, data := [], state := s }

/-! ### Shadow writes -/

/-- Rows 1 and 2 of R114: the shadow is closed to writes. -/
def shadowClosed (s : State) : Option Status :=
  match s.banks.state with
  | .armed => some .shadowArmed
  | .refresh => some .shadowBusy
  | .idle => none

/-- The shadow stream record at `i`, touched (R114). -/
def putStream (i : StreamId) (r : StreamRec) (b : Banks) : Banks :=
  { b with
    shadow := { b.shadow with streams := b.shadow.streams.set i.val r i.isLt }
    touchedStreams := b.touchedStreams.set i.val true i.isLt }

def putGroup (g : GroupId) (r : GroupRec) (b : Banks) : Banks :=
  { b with
    shadow := { b.shadow with groups := b.shadow.groups.set g.val r g.isLt }
    touchedGroups := b.touchedGroups.set g.val true g.isLt }

def putPart (r : PartRec) (b : Banks) : Banks := { b with shadow := { b.shadow with part := r }, touchedPart := true }

/-- WRITE_STREAM as TBC decides it (R114, R115). -/
def writeStreamRecord (q : Request) (s : State) : Answer :=
  match shadowClosed s with
  | some st => refuse st s
  | none =>
    match indexBelow 1024 (argHalf q 20) with
    | none => refuse .badIndex s
    | some i =>
      match decodeStreamRec q.cell 22 with
      | .error st => refuse st s
      | .ok r => done (s.modBanks (putStream i r))

/-- WRITE_GROUP as TBC decides it (R114, R116). -/
def writeGroupRecord (q : Request) (s : State) : Answer :=
  match shadowClosed s with
  | some st => refuse st s
  | none =>
    match indexBelow 64 (argByte q 20) with
    | none => refuse .badIndex s
    | some g =>
      match decodeGroupRec q.cell 21 with
      | .error st => refuse st s
      | .ok r => done (s.modBanks (putGroup g r))

/-- WRITE_PART as TBC decides it (R114, R117). -/
def writePartRecord (q : Request) (s : State) : Answer :=
  match shadowClosed s with
  | some st => refuse st s
  | none =>
    match decodePartRec q.cell 20 with
    | .error st => refuse st s
    | .ok r => done (s.modBanks (putPart r))

/-! ### The commit checks (R119) -/

/-- The group and slot a stream record feeds, when its action is CONTRIBUTE or BOTH. -/
def feedOf (r : StreamRec) : Option Feed :=
  match r.action with
  | .contribute f | .both _ f => some f
  | .drop | .forward _ => none

/-- The last tick a window may close at plus one: B less the tolerance under FOLLOW (R119, WINDOW). -/
def windowLimit (r : PartRec) : Int := (r.baseLen : Int) - (if r.source = .follow then (r.tolerance : Int) else 0)

/-- An enabled group closes at or below B−1−m. -/
def windowFits (r : PartRec) (g : GroupRec) : Bool := !g.enabled || decide ((g.closeTick : Int) ≤ windowLimit r - 1)

/-- WINDOW: the lowest failing group number. -/
def failsWindow (b : Bank) : Option Nat := b.groups.toList.findIdx? (fun g => !windowFits b.part g)

/-- SLOT_RANGE of one record. -/
def slotInRange (b : Bank) (r : StreamRec) : Bool :=
  match feedOf r with
  | none => true
  | some f => decide (f.slot.val < b.groups[f.group].contributors)

/-- SLOT_RANGE: the lowest failing stream_id. -/
def failsSlotRange (b : Bank) : Option Nat := b.streams.toList.findIdx? (fun r => !slotInRange b r)

/-- The lowest index from `i` on whose record names a group and slot in `seen` or named by a lower one. -/
def firstTaken (i : Nat) (seen : List (GroupId × Slot)) (l : List StreamRec) : Option Nat :=
  match l with
  | [] => none
  | r :: rest =>
    match feedOf r with
    | none => firstTaken (i + 1) seen rest
    | some f => if (f.group, f.slot) ∈ seen then some i else firstTaken (i + 1) ((f.group, f.slot) :: seen) rest

/-- SLOT_TAKEN: the lowest stream_id that names a pair already named by a lower one. -/
def failsSlotTaken (b : Bank) : Option Nat := firstTaken 0 [] b.streams.toList

/-- NO_MGMT_PORT: no port is in both lists. -/
def failsMgmtPort (r : PartRec) : Bool := r.mgmtPorts &&& r.portEnable == 0

/-- TIMING_PORT: FOLLOW with a timing port outside port_enable. -/
def failsTimingPort (r : PartRec) : Bool := r.source == .follow && !inPortList r.portEnable r.timingPort

/-- The five checks in their order: the first that fails, with its index (R119). -/
def commitChecks (b : Bank) : Option (CheckReason × Nat) :=
  match failsWindow b with
  | some g => some (.window, g)
  | none =>
    match failsSlotRange b with
    | some i => some (.slotRange, i)
    | none =>
      match failsSlotTaken b with
      | some i => some (.slotTaken, i)
      | none =>
        if failsMgmtPort b.part then some (.noMgmtPort, 0)
        else if failsTimingPort b.part then some (.timingPort, b.part.timingPort.val)
        else none

/-- COMMIT as TBC decides it (R118). -/
def commitShadow (s : State) : Answer :=
  match s.banks.state with
  | .armed => refuse .alreadyArmed s
  | .refresh => refuse .shadowBusy s
  | .idle =>
    match commitChecks s.banks.shadow with
    | some (reason, i) => { status := .checkFailed, data := reasonCode reason :: nat16 i, state := s }
    | none => done (s.modBanks (fun b => { b with state := .armed }))

/-- CANCEL as TBC decides it (R121). -/
def cancelCommit (s : State) : Answer :=
  match s.banks.state with
  | .armed => done (s.modBanks (fun b => { b with state := .idle }))
  | .idle | .refresh => refuse .notArmed s

/-! ### Reading the banks (R129, R193) -/

/-- The bank an argument code names: its records, and whether it is the shadow. -/
def bankOf (code : Nat) (s : State) : Option (Bank × Bool) :=
  match code with
  | 0 => some (s.banks.active, false)
  | 1 => some (s.banks.shadow, true)
  | _ => none

/-- Stream record `i` of a bank as reported; the mark is reported for the shadow alone. -/
def reportStream (s : State) (b : Bank × Bool) (i : Nat) : List Byte :=
  match indexBelow 1024 i with
  | some k => encodeStreamRec b.1.streams[k] (b.2 && s.banks.touchedStreams[k])
  | none => []

def reportGroup (s : State) (b : Bank × Bool) (i : Nat) : List Byte :=
  match indexBelow 64 i with
  | some k => encodeGroupRec b.1.groups[k] (b.2 && s.banks.touchedGroups[k])
  | none => []

/-- READ_STREAM (R129): BAD_FIELD before BAD_INDEX (R179). -/
def readStreams (q : Request) (s : State) : Answer :=
  match bankOf (argByte q 20) s with
  | none => refuse .badField s
  | some b =>
    if argByte q 21 < 1 ∨ argByte q 21 > 4 then refuse .badField s
    else if argHalf q 22 + argByte q 21 > 1024 then refuse .badIndex s
    else report ((List.range (argByte q 21)).flatMap (fun k => reportStream s b (argHalf q 22 + k))) s

/-- READ_GROUP (R129). -/
def readGroups (q : Request) (s : State) : Answer :=
  match bankOf (argByte q 20) s with
  | none => refuse .badField s
  | some b =>
    if argByte q 21 < 1 ∨ argByte q 21 > 2 then refuse .badField s
    else if argByte q 22 + argByte q 21 > 64 then refuse .badIndex s
    else report ((List.range (argByte q 21)).flatMap (fun k => reportGroup s b (argByte q 22 + k))) s

/-- READ_PART (R129). -/
def readPartRecord (q : Request) (s : State) : Answer :=
  match bankOf (argByte q 20) s with
  | none => refuse .badField s
  | some b => report (encodePartRec b.1.part (b.2 && s.banks.touchedPart)) s

/-! ### The refresh (R127) -/

/-- One position copied from the active bank, its mark cleared: streams, then groups, then the Part record. -/
def copyPosition (b : Banks) : Banks :=
  match indexBelow 1024 b.copyPos with
  | some i =>
    { b with
      shadow := { b.shadow with streams := b.shadow.streams.set i.val b.active.streams[i] i.isLt }
      touchedStreams := b.touchedStreams.set i.val false i.isLt
      copyPos := b.copyPos + 1 }
  | none =>
    match indexBelow 64 (b.copyPos - 1024) with
    | some g =>
      { b with
        shadow := { b.shadow with groups := b.shadow.groups.set g.val b.active.groups[g] g.isLt }
        touchedGroups := b.touchedGroups.set g.val false g.isLt
        copyPos := b.copyPos + 1 }
    | none =>
      { b with shadow := { b.shadow with part := b.active.part }, touchedPart := false, copyPos := b.copyPos + 1 }

/-- REFRESH_COPY (R127). Outside REFRESH, or with every position copied, there is none (notes/assumptions/1.md). -/
def execRefreshCopy (s : State) : Host.Outcome State Fault Refusal :=
  if s.banks.state = .refresh ∧ s.banks.copyPos < Config.copyPositions then .next (s.modBanks copyPosition)
  else .next s

/-- REFRESH_COMPLETE (R127), after the Part record has been copied. -/
def execRefreshComplete (s : State) : Host.Outcome State Fault Refusal :=
  if s.banks.state = .refresh ∧ ¬ s.banks.copyPos < Config.copyPositions then
    .next (s.modBanks (fun b => { b with state := .idle }))
  else .next s

end Sys2Proof.Machine
end

