-- ==== Sys2Proof/Machine/Manage.lean ====
section
/-!
DEFINITION. The Management Engine: taking the request at the head of the queue (R164), the steps of R165, the claim
(R168 to R170), the transaction cache (R173, R174), responses (R166), and one command per request name
(spec/10_management_protocol.md, spec/11_formats_and_layouts.md).
-/

namespace Sys2Proof.Machine

/-! ### Responses (R166) -/

/-- The response to a request. -/
def responseTo (q : Request) (code : Byte) (st : Status) (data : List Byte) (s : State) : Response :=
  { replyId := replyId q, controllerTag := controllerTag q, transactionTag := transactionTag q, code := code,
    status := st, data := data, port := q.port, period := s.pt.period }

/-- The response is placed on the ingress port, or discarded with RSP_DROP and its slot free (R166). -/
def respond (r : RespId) (q : Request) (code : Byte) (st : Status) (data : List Byte) (s : State) : State :=
  if reachable s q.port && controlRoom s q.port then
    appendControl q.port (.response r) (fillSlot r (responseTo q code st data s) s)
  else s.countPort q.port (fun c => { c with rspDrop := satInc c.rspDrop })

/-! ### The claim and the cache -/

/-- The request comes from the holder (R165, step 2). -/
def fromHolder (q : Request) (s : State) : Bool := s.me.claim.holder == some (controllerTag q)

/-- Step 2 of R165: the lease is reloaded and the holder port moved (R168). -/
def renewClaim (q : Request) (s : State) : State :=
  if fromHolder q s then
    s.modMe (fun m => { m with claim := { m.claim with lease := s.part.leaseLen, port := q.port } })
  else s

/-- The cached response a holder's request repeats, if it does (R165, step 3; R174). -/
def cachedAnswer (q : Request) (s : State) : Option CacheEntry :=
  if fromHolder q s then s.me.cache.filter (fun e => e.transactionTag == transactionTag q) else none

/-- The cache after the processing of a request that was not a duplicate (R173). -/
def updateCache (q : Request) (code : Byte) (st : Status) (data : List Byte) (s : State) : State :=
  if fromHolder q s then
    let e : CacheEntry := { transactionTag := transactionTag q, code := code, status := st, data := data }
    s.modMe (fun m => { m with cache := some e })
  else s

/-! ### Processing one request (R164, R165) -/

/-- Steps 4, 5 and 6 of R165 for a request of the named row, executed by `body`. -/
def decideRequest (name : Option RequestName) (body : Request → State → Answer) (q : Request) (s : State) : Answer :=
  match name with
  | none => refuse .badRequest s
  | some n => if reservedToHolder n && !fromHolder q s then refuse .notOwner s else body q s

/-- A request that is not a duplicate: decided, answered, cached (R165, R166, R173). -/
def answerFresh (r : RespId) (name : Option RequestName) (body : Request → State → Answer) (q : Request) (s : State) :
    State :=
  let a := decideRequest name body q s
  updateCache q (requestCode q) a.status a.data (respond r q (requestCode q) a.status a.data a.state)

/-- One request by the steps of R165, its response in slot `r`. -/
def processRequest (r : RespId) (name : Option RequestName) (body : Request → State → Answer) (q : Request)
    (s : State) : State :=
  if controllerTag q = 0 then respond r q (requestCode q) .badField [] s
  else
    let t := renewClaim q s
    match cachedAnswer q t with
    | some e => respond r q e.code e.status e.data t
    | none => answerFresh r name body q t

/-- ME takes the request at the head of its queue, when there is one of the named row, a response slot is free and the
RESETTING mark is clear (R164). Otherwise it takes none (notes/assumptions/5.md). -/
def takeRequest (name : Option RequestName) (body : Request → State → Answer) (s : State) : State :=
  match s.me.requests, freeSlot? s with
  | q :: rest, some r =>
    if s.me.resetting = false ∧ requestName (requestCode q) = name then
      processRequest r name body q (s.modMe (fun m => { m with requests := rest }))
    else s
  | _, _ => s

/-! ### The bodies -/

/-- IDENTIFY (R175, R194). -/
def identifyBody (_q : Request) (s : State) : Answer :=
  report (be16 Config.vendorCode ++ be16 Config.partCode ++ [Config.revisionCode, 8] ++ nat16 1024 ++ [64] ++ nat16 384
    ++ nat16 s.part.mgmtId.val) s

/-- CLAIM (R169). -/
def claimBody (q : Request) (s : State) : Answer :=
  match s.me.claim.holder with
  | none =>
    done (s.modMe (fun m => { m with
      claim := { holder := some (controllerTag q), port := q.port, noticeId := replyId q, lease := s.part.leaseLen }
      cache := none
      notices := m.notices.map (fun n => { n with age := none }) }))
  | some tag =>
    if tag = controllerTag q then done (s.modMe (fun m => { m with claim := { m.claim with noticeId := replyId q } }))
    else { status := .claimed, data := be16 tag, state := s }

/-- RELEASE (R170). -/
def releaseBody (_q : Request) (s : State) : Answer :=
  done (s.modMe (fun m => { m with claim := { m.claim with holder := none }, cache := none }))

/-- READ_STATUS (R175, R194); without a holder its tag and lease are reported 0 (R168). -/
def readStatusBody (_q : Request) (s : State) : Answer :=
  report ([bankStateCode s.banks.state, timingCode s.tf.state] ++ nat16 s.pt.tick ++ be16 s.pt.period
    ++ nat16 (freeCount s) ++ [boolByte s.me.claim.holder.isSome] ++ be16 (s.me.claim.holder.getD 0)
    ++ nat16 (if s.me.claim.holder.isSome then s.me.claim.lease else 0)
    ++ [nat8 s.me.notices.length, boolByte s.me.overflow]) s

/-- The slots with property `f`, slot s as the bit of value 2^s. -/
def slotBits (f : Slot → Bool) : Byte :=
  allSlots.foldl (fun x i => x ||| (if f i then BitVec.ofNat 8 (2 ^ i.val) else 0)) 0

/-- READ_GROUP_STATE (R37, R176, R194). -/
def readGroupStateBody (q : Request) (s : State) : Answer :=
  match indexBelow 64 (argByte q 20) with
  | none => refuse .badIndex s
  | some g =>
    let a := s.groups[g]
    report ([accStateCode a.state, slotBits (fun i => a.arrived[i].isSome), slotBits (fun i => a.holds[i].isSome), a.emission]
      ++ allSlots.flatMap (fun i => nat16 (a.arrived[i].getD 0))) s

/-- READ_PORT_COUNTERS (R158, R194, R195). -/
def readPortCountersBody (q : Request) (s : State) : Answer :=
  if argByte q 21 > 1 then refuse .badField s
  else
    match indexBelow 8 (argByte q 20) with
    | none => refuse .badIndex s
    | some p =>
      let x := s.ports[p]
      let c := x.counters
      let head : List Byte := [linkCode x.link, boolByte x.signal]
      if argByte q 21 = 0 then
        report (head ++ be32 c.rxCells ++ be32 c.rxCheck ++ be32 c.rxFormat ++ be32 c.mgmtDenied ++ be32 c.mgmtDrop) s
      else
        report (head ++ [nat8 x.control.length, nat8 x.data.length] ++ be32 c.txCells ++ be32 c.egressDrop
          ++ be32 c.egressFlush ++ be32 c.syncSkip ++ be32 c.rspDrop ++ be32 c.linkDowns) s

/-- READ_STREAM_COUNTERS (R60, R61, R194, R195). -/
def readStreamCountersBody (q : Request) (s : State) : Answer :=
  if argByte q 22 > 1 then refuse .badField s
  else
    match indexBelow 1024 (argHalf q 20) with
    | none => refuse .badIndex s
    | some i =>
      let x := s.streams[i]
      let c := x.counters
      let head : List Byte := [boolByte x.lastSeq.isSome, x.lastSeq.getD 0]
      if argByte q 22 = 0 then
        report (head ++ be32 c.accepted ++ be32 c.dropped ++ be32 c.guard ++ be32 c.repeated ++ be32 c.gap ++ be32 c.kind
          ++ be32 c.noDest ++ be32 c.poolDrop) s
      else
        report (head ++ be32 c.early ++ be32 c.late ++ be32 c.duplicate ++ be32 c.size ++ be32 c.groupOff) s

/-- READ_GROUP_COUNTERS (R57, R194). -/
def readGroupCountersBody (q : Request) (s : State) : Answer :=
  match indexBelow 64 (argByte q 20) with
  | none => refuse .badIndex s
  | some g =>
    let c := s.groups[g].counters
    report (be32 c.emitted ++ be32 c.short ++ be32 c.suppressed ++ be32 c.lost ++ be32 c.cut ++ be32 c.filled
      ++ be32 c.noDest) s

/-- READ_TIMING (R148, R194). -/
def readTimingBody (_q : Request) (s : State) : Answer :=
  let f := s.tf
  report ([timingCode f.state, boolByte f.lastOffset.isSome] ++ be16 (BitVec.ofInt 16 (f.lastOffset.getD 0))
    ++ be32 f.miss ++ be32 f.silent ++ be32 f.syncInTol ++ be32 f.syncOutTol ++ be32 f.syncMissing ++ be32 f.steps
    ++ be32 f.numberSlip) s

def clearPort (p : Port) (s : State) : State := s.countPort p (fun _ => PortCounters.zero)
def clearStream (i : StreamId) (s : State) : State := s.countStream i (fun _ => StreamCounters.zero)
def clearGroup (g : GroupId) (s : State) : State := s.countGroup g (fun _ => GroupCounters.zero)

/-- The timing counters with the miss and silent counters at 0 (R146, R178). -/
def clearTiming (s : State) : State :=
  s.modTf (fun f => { f with
    miss := 0, silent := 0, syncInTol := 0, syncOutTol := 0, syncMissing := 0, steps := 0, numberSlip := 0 })

/-- CLEAR_COUNTERS with scope ALL (R178). -/
def clearAll (s : State) : State :=
  clearTiming { s with
    ports := Vector.ofFn (fun p => { s.ports[p] with counters := PortCounters.zero })
    streams := Vector.ofFn (fun i => { s.streams[i] with counters := StreamCounters.zero })
    groups := Vector.ofFn (fun g => { s.groups[g] with counters := GroupCounters.zero }) }

/-- One element cleared, or BAD_INDEX. -/
def clearOne {n : Nat} (i : Nat) (f : Fin n → State → State) (s : State) : Answer :=
  match indexBelow n i with
  | none => refuse .badIndex s
  | some k => done (f k s)

/-- CLEAR_COUNTERS (R178). -/
def clearCountersBody (q : Request) (s : State) : Answer :=
  match argByte q 20 with
  | 0 => done (clearAll s)
  | 1 => clearOne (argHalf q 21) clearPort s
  | 2 => clearOne (argHalf q 21) clearStream s
  | 3 => clearOne (argHalf q 21) clearGroup s
  | _ => refuse .badField s

/-- A notice of number `k` is acknowledged by `n` (R184). -/
def acknowledges (n k : Half) : Bool := decide ((n - k).toNat < 32768)

/-- ACK_NOTICE (R184). -/
def ackNoticeBody (q : Request) (s : State) : Answer :=
  let removed := (s.me.notices.takeWhile (fun x => acknowledges (cellHalf q.cell 20) x.number)).length
  { status := .ok, data := [nat8 removed]
    state := s.modMe (fun m => { m with notices := m.notices.drop removed }) }

/-- RESET (R186). -/
def resetBody (_q : Request) (s : State) : Answer := done (s.modMe (fun m => { m with resetting := true }))

/-! ### The commands -/

def execIdentify (s : State) : Host.Outcome State Fault Refusal := .next (takeRequest (some .identify) identifyBody s)
def execClaim (s : State) : Host.Outcome State Fault Refusal := .next (takeRequest (some .claim) claimBody s)
def execRelease (s : State) : Host.Outcome State Fault Refusal := .next (takeRequest (some .release) releaseBody s)
def execReadStatus (s : State) : Host.Outcome State Fault Refusal := .next (takeRequest (some .readStatus) readStatusBody s)
def execReadStream (s : State) : Host.Outcome State Fault Refusal := .next (takeRequest (some .readStream) readStreams s)
def execReadGroup (s : State) : Host.Outcome State Fault Refusal := .next (takeRequest (some .readGroup) readGroups s)
def execReadPart (s : State) : Host.Outcome State Fault Refusal := .next (takeRequest (some .readPart) readPartRecord s)
def execReadGroupState (s : State) : Host.Outcome State Fault Refusal :=
  .next (takeRequest (some .readGroupState) readGroupStateBody s)
def execReadPortCounters (s : State) : Host.Outcome State Fault Refusal :=
  .next (takeRequest (some .readPortCounters) readPortCountersBody s)
def execReadStreamCounters (s : State) : Host.Outcome State Fault Refusal :=
  .next (takeRequest (some .readStreamCounters) readStreamCountersBody s)
def execReadGroupCounters (s : State) : Host.Outcome State Fault Refusal :=
  .next (takeRequest (some .readGroupCounters) readGroupCountersBody s)
def execReadTiming (s : State) : Host.Outcome State Fault Refusal := .next (takeRequest (some .readTiming) readTimingBody s)
def execWriteStream (s : State) : Host.Outcome State Fault Refusal :=
  .next (takeRequest (some .writeStream) writeStreamRecord s)
def execWriteGroup (s : State) : Host.Outcome State Fault Refusal := .next (takeRequest (some .writeGroup) writeGroupRecord s)
def execWritePart (s : State) : Host.Outcome State Fault Refusal := .next (takeRequest (some .writePart) writePartRecord s)

/-- COMMIT (R118): decided by TBC. -/
def execCommit (s : State) : Host.Outcome State Fault Refusal :=
  .next (takeRequest (some .commit) (fun _ t => commitShadow t) s)

/-- CANCEL (R121): decided by TBC. -/
def execCancel (s : State) : Host.Outcome State Fault Refusal :=
  .next (takeRequest (some .cancel) (fun _ t => cancelCommit t) s)

def execClearCounters (s : State) : Host.Outcome State Fault Refusal :=
  .next (takeRequest (some .clearCounters) clearCountersBody s)
def execAckNotice (s : State) : Host.Outcome State Fault Refusal := .next (takeRequest (some .ackNotice) ackNoticeBody s)
def execReset (s : State) : Host.Outcome State Fault Refusal := .next (takeRequest (some .reset) resetBody s)

/-- BAD_REQUEST (R165, step 4): a request whose code names no request. -/
def execBadRequest (s : State) : Host.Outcome State Fault Refusal :=
  .next (takeRequest none (fun _ t => refuse .badRequest t) s)

end Sys2Proof.Machine
end

