-- ==== Sys2Proof/Machine/Resets.lean ====
section
/-!
DEFINITION. The two resets: POWER_ON_RESET (R188) and SOFT_RESET (R187), each one event of every block.
-/

namespace Sys2Proof.Machine

/-- CE at soft reset (R39). -/
def softResetGroup (r : GroupRec) : Accum :=
  { state := if r.enabled then .idle else .off
    arrived := noArrivals
    result := if r.enabled then identityResult r else zeroResult r
    filled := false
    cut := false
    emission := 0
    holds := noHolds
    counters := GroupCounters.zero }

/-- PORT and EQ at soft reset: the link state and the signal mark are kept (R162, R109). -/
def softResetPort (q : PortState) : PortState :=
  { link := q.link, signal := q.signal, errorRun := 0, counters := PortCounters.zero, control := [], data := [], tx := .idle }

/-- TBC at soft reset: an armed commit is cancelled, a copy restarts (R132). -/
def softResetBanks (b : Banks) : Banks :=
  match b.state with
  | .idle => b
  | .armed => { b with state := .idle }
  | .refresh => { b with copyPos := 0, copyAge := 0 }

/-- TF's state after a soft reset (R149). -/
def sourceState (r : PartRec) : TimingState :=
  match r.source with
  | .free => .free
  | .follow => .acquire

/-- The soft reset of every block (R187). The SYNCs that TF has not yet taken are taken after it (R149;
notes/assumptions/7.md). A step that TF has asked for and PT has not taken is dropped, with the forced closes still to come,
and so is an armed swap that it would have made (DESIGN CHOICE: notes/assumptions/25.md). The buffers keep their stored cells,
as free ones (R95; DESIGN CHOICE: notes/assumptions/26.md). -/
def softResetAll (s : State) : State :=
  { pt := PeriodTimer.afterReset s.part.baseLen
    tf := { Follower.afterReset (sourceState s.part) with handed := s.tf.handed }
    groups := Vector.ofFn (fun g => softResetGroup (s.groupRec g))
    streams := Vector.replicate 1024 StreamState.powerOn
    pool := Vector.ofFn (fun b => { s.pool[b] with refs := 0 })
    ports := Vector.ofFn (fun p => softResetPort s.ports[p])
    banks := softResetBanks s.banks
    me := Management.afterReset .startedSoft
    pending := s.pending }

/-- SOFT_RESET (R187). It is taken once it has begun (R103, R186; notes/assumptions/8.md). -/
def execSoftReset (s : State) : Host.Outcome State Fault Refusal :=
  if softResetDue s then .next (softResetAll s) else .next s

/-- POWER_ON_RESET (R188): the state after reset, the waiting commands kept (notes/assumptions/17.md). -/
def execPowerOnReset (s : State) : Host.Outcome State Fault Refusal := .next { State.reset with pending := s.pending }

end Sys2Proof.Machine
end

