-- ==== Sys2Proof/Machine/Dispatch.lean ====
section
/-! DEFINITION. One arm per command: its meaning. -/

namespace Sys2Proof.Machine

def exec (i : Instr) (s : State) : Host.Outcome State Fault Refusal :=
  match i with
  -- resets
  | .powerOnReset => Sys2Proof.Machine.execPowerOnReset s
  | .softReset => Sys2Proof.Machine.execSoftReset s
  -- time
  | .tickEnd => Sys2Proof.Machine.execTickEnd s
  | .boundary schedule => Sys2Proof.Machine.execBoundary schedule s
  | .claimExpired => Sys2Proof.Machine.execClaimExpired s
  | .syncMissing => Sys2Proof.Machine.execSyncMissing s
  -- the refresh
  | .refreshCopy => Sys2Proof.Machine.execRefreshCopy s
  | .refreshComplete => Sys2Proof.Machine.execRefreshComplete s
  -- windows
  | .openWindow g => Sys2Proof.Machine.execOpenWindow g s
  | .closeWindow g => Sys2Proof.Machine.execCloseWindow g s
  -- the Timing Follower
  | .syncTaken closes schedule => Sys2Proof.Machine.execSyncTaken closes schedule s
  -- ports
  | .signalDetected p => Sys2Proof.Machine.execSignalDetected p s
  | .signalLost p order => Sys2Proof.Machine.execSignalLost p order s
  | .aligned p => Sys2Proof.Machine.execAligned p s
  | .unaligned p order => Sys2Proof.Machine.execUnaligned p order s
  | .cellReceived p c order => Sys2Proof.Machine.execCellReceived p c order s
  | .txComplete p => Sys2Proof.Machine.execTxComplete p s
  -- requests
  | .identify => Sys2Proof.Machine.execIdentify s
  | .claim => Sys2Proof.Machine.execClaim s
  | .release => Sys2Proof.Machine.execRelease s
  | .readStatus => Sys2Proof.Machine.execReadStatus s
  | .readStream => Sys2Proof.Machine.execReadStream s
  | .readGroup => Sys2Proof.Machine.execReadGroup s
  | .readPart => Sys2Proof.Machine.execReadPart s
  | .readGroupState => Sys2Proof.Machine.execReadGroupState s
  | .readPortCounters => Sys2Proof.Machine.execReadPortCounters s
  | .readStreamCounters => Sys2Proof.Machine.execReadStreamCounters s
  | .readGroupCounters => Sys2Proof.Machine.execReadGroupCounters s
  | .readTiming => Sys2Proof.Machine.execReadTiming s
  | .writeStream => Sys2Proof.Machine.execWriteStream s
  | .writeGroup => Sys2Proof.Machine.execWriteGroup s
  | .writePart => Sys2Proof.Machine.execWritePart s
  | .commit => Sys2Proof.Machine.execCommit s
  | .cancel => Sys2Proof.Machine.execCancel s
  | .clearCounters => Sys2Proof.Machine.execClearCounters s
  | .ackNotice => Sys2Proof.Machine.execAckNotice s
  | .reset => Sys2Proof.Machine.execReset s
  | .badRequest => Sys2Proof.Machine.execBadRequest s

end Sys2Proof.Machine
end

