-- ==== Sys2Proof/Safety.lean ====
section
/-!
DEFINITION. What the claims are stated in: when a command is due, what queueing a notice, leaving a queue or answering a
request comes to (each written from its rule, not from the operation that does it), and the properties of a state that
every event keeps.
-/

namespace Sys2Proof.Machine

/-! ### When events are due -/

/-- The last tick of the period is over: the boundary is due (R1, R7; when a tick may end: notes/assumptions/2.md). -/
def BoundaryDue (s : State) : Prop := tickMayEnd s = true ∧ s.pt.len ≤ s.pt.tick + 1

/-- The swap of the coming boundary or step changes source or timing_port (R135). -/
def MovesTiming (s : State) : Prop :=
  s.banks.state = .armed ∧ (s.banks.shadow.part.source ≠ s.banks.active.part.source ∨
    s.banks.shadow.part.timingPort ≠ s.banks.active.part.timingPort)

/-- The command `c` begins a period: an ordinary boundary that is due, or the step that TF has asked for once its forced
closes have left no window OPEN and no SYNC is left that a swap would divert otherwise (R7, R12, R135; the step's closes:
notes/assumptions/14.md, the SYNC: notes/assumptions/20.md). -/
def Begins (c : Instr) (sch : List BoundaryAct) (s : State) : Prop :=
  (c = .boundary sch ∧ BoundaryDue s) ∨
  (∃ first, c = .syncTaken (.all first) sch ∧ s.pt.stepRequest ≠ none ∧ (MovesTiming s → s.tf.handed = []) ∧
    ∀ g : GroupId, s.groups[g].state ≠ .opened)

/-- The Part record that is active once any swap of the coming boundary has been made (R2). -/
def State.nextPart (s : State) : PartRec :=
  match s.banks.state with
  | .armed => s.banks.shadow.part
  | .idle | .refresh => s.banks.active.part

/-- A window event of the group is due at this tick, and the group's accumulator is in state `a` (R9, R10). -/
def WindowDue (s : State) (g : GroupId) (tick : Nat) (a : AccState) : Prop :=
  s.banks.active.groups[g].enabled = true ∧ tick = s.pt.tick ∧ s.groups[g].state = a

/-- The command `c` closes the OPEN window of group `g`: its CLOSE that is due (R10, R40), or a forced close of the step
that TF has asked for (R12, R41), as a command of its own (notes/assumptions/14.md). -/
def Closes (c : Instr) (forced : Bool) (s : State) (g : GroupId) : Prop :=
  (forced = false ∧ c = .closeWindow g ∧ WindowDue s g s.banks.active.groups[g].closeTick .opened) ∨
  (forced = true ∧ (∃ sch, c = .syncTaken (.only [g]) sch) ∧ s.pt.stepRequest ≠ none ∧ s.groups[g].state = .opened)

/-- The accumulator that a close works on: a forced one has set CUT and counted it (R41). -/
def Accum.closing (forced : Bool) (a : Accum) : Accum :=
  if forced then { a with cut := true, counters := { a.counters with cut := satAdd a.counters.cut 1 } } else a

/-- The offset of a SYNC taken now (R134). -/
def offsetNow (s : State) : Int :=
  if s.pt.tick < s.pt.len / 2 then (s.pt.tick : Int) else (s.pt.tick : Int) - (s.pt.len : Int)

/-- The identity of a group record's op at each of its positions (R17). -/
def IsIdentity (r : GroupRec) (x : Running) : Prop :=
  (r.op = .sum → x = .values (List.replicate r.sampleCount 0)) ∧
  (r.op = .max → x = .values (List.replicate r.sampleCount (-8388608))) ∧
  (r.op = .min → x = .values (List.replicate r.sampleCount 8388607)) ∧
  (r.op = .priority → x = .lead none)

/-- A member of a destination set that is enabled and UP (R79, R51, R83). -/
def Standing (s : State) (d : Dest) (p : Port) : Prop :=
  BitVec.ofNat 3 p.val &&& ~~~d.wild = d.base ∧ inPortList s.part.portEnable p = true ∧ s.ports[p].link = .up

/-- What one cell's reduction and append do to a port: a standing port with room takes an entry for buffer `b`, a
standing full one counts EGRESS_DROP, and any other is left alone (R51, R52, R82 to R84, R88). An idle transmitter with
both queues empty starts the entry at once (R100). -/
def PortTakes (b : BufId) (d : Dest) (excluded : Port → Prop) (s t : State) (p : Port) : Prop :=
  (Standing s d p → ¬ excluded p → s.ports[p].data.length < 64 →
    ∃ tx, t.ports[p] = { s.ports[p] with data := s.ports[p].data ++ [b], tx := tx } ∧
      (s.ports[p].tx ≠ .idle → tx = s.ports[p].tx) ∧
      (s.ports[p].tx = .idle → s.ports[p].control = [] → s.ports[p].data = [] →
        tx = .sending .data t.pool[b].cell)) ∧
  (Standing s d p → ¬ excluded p → 64 ≤ s.ports[p].data.length →
    t.ports[p] = { s.ports[p] with counters :=
      { s.ports[p].counters with egressDrop := satAdd s.ports[p].counters.egressDrop 1 } }) ∧
  (¬ (Standing s d p ∧ ¬ excluded p) → t.ports[p] = s.ports[p])

/-- The number of ports that take a copy. -/
def TakeCount (d : Dest) (excluded : Port → Prop) (s : State) (n : Nat) : Prop :=
  ∃ l : List Port, l.Nodup ∧ l.length = n ∧
    ∀ p, p ∈ l ↔ Standing s d p ∧ ¬ excluded p ∧ s.ports[p].data.length < 64

/-- What a boundary or step does to a port that stays as it is enabled: entries appended to CONTROL, the transmitter started
by them alone, and SYNC_SKIP counted within sync_out alone (R145, R158, R183). -/
def ControlGrew (s : State) (p : Port) (q q' : PortState) : Prop :=
  ∃ l tx skip, q' = { q with
      control := q.control ++ l, tx := tx, counters := { q.counters with syncSkip := skip } } ∧
    (q.tx ≠ .idle ∨ l = [] → tx = q.tx) ∧
    (inPortList s.nextPart.syncOut p = false → skip = q.counters.syncSkip)

/-- TF before and after a boundary or step: the re-evaluation, the loss of the timing port and the silent check change its
state, the miss and silent counters, the seen mark and SYNC_MISSING alone (R141 to R143). -/
def FollowerKept (f f' : Follower) : Prop :=
  f' = { f with
    state := f'.state, miss := f'.miss, silent := f'.silent, seen := f'.seen, syncMissing := f'.syncMissing }

/-- A swap takes port `p` out of port_enable while its link is UP (R155). -/
def SwapDrops (s : State) (p : Port) : Prop :=
  inPortList s.banks.active.part.portEnable p = true ∧ inPortList s.banks.shadow.part.portEnable p = false ∧
  s.ports[p].link = .up

/-! ### A notice queued (R181) -/

/-- ME before and after a block queues a notice: the three cases of R181. -/
def NoticeQueued (t : Topic) (pl : NoticePayload) (m m' : Management) : Prop :=
  m'.requests = m.requests ∧ m'.slots = m.slots ∧ m'.resetting = m.resetting ∧ m'.claim = m.claim ∧
  m'.cache = m.cache ∧
  ((∃ before old after, m.notices = before ++ old :: after ∧ old.topic = t ∧ (∀ n ∈ before, n.topic ≠ t) ∧
      m'.notices = before ++ after ++
        [⟨m.nextNumber, t, pl, if old.repeats < 255 then old.repeats + 1 else 255, none⟩] ∧
      m'.nextNumber = m.nextNumber + 1 ∧ m'.overflow = m.overflow) ∨
   ((∀ n ∈ m.notices, n.topic ≠ t) ∧ m.notices.length ≥ 16 ∧
      m'.notices = m.notices ∧ m'.nextNumber = m.nextNumber ∧ m'.overflow = true) ∨
   ((∀ n ∈ m.notices, n.topic ≠ t) ∧ m.notices.length < 16 ∧
      m'.notices = m.notices ++ [⟨m.nextNumber, t, pl, 1, none⟩] ∧
      m'.nextNumber = m.nextNumber + 1 ∧ m'.overflow = m.overflow))

/-- ME before and after the notices of the list are queued, one after the other. -/
def NoticesQueued : List (Topic × NoticePayload) → Management → Management → Prop
  | [], m, m' => m' = m
  | e :: l, m, m' => ∃ m1, NoticeQueued e.1 e.2 m m1 ∧ NoticesQueued l m1 m'

/-- What TF and ME see of the link of port `p` leaving UP, from `s` to `t` (R142, R153, R159): LINK down is queued; where
`p` is the timing port and TF is LOCKED, TF goes to HOLDOVER and TIMING is queued, the two notices in the order `o`. -/
def LossTold (p : Port) (o : LossOrder) (s t : State) : Prop :=
  let m := { s.me with slots := t.me.slots }
  (s.part.timingPort ≠ p ∨ s.tf.state ≠ .locked → t.tf = s.tf ∧ NoticeQueued (.link p) (.link false) m t.me) ∧
  (s.part.timingPort = p → s.tf.state = .locked → t.tf = { s.tf with state := .holdover } ∧ ∃ m',
    (o = .linkFirst → NoticeQueued (.link p) (.link false) m m' ∧ NoticeQueued .timing (.timing .holdover) m' t.me) ∧
    (o = .timingFirst → NoticeQueued .timing (.timing .holdover) m m' ∧ NoticeQueued (.link p) (.link false) m' t.me))

/-! ### The silent check (R141) -/

/-- The silent counter after the check: a period without a SYNC advances it. -/
def Follower.checkedSilent (f : Follower) : Counter := if f.seen then f.silent else satAdd f.silent 1

/-- TF before and after the silent check: FREE makes none, a LOCKED part with 8 silent periods goes to HOLDOVER, and the
seen mark is cleared. -/
def SilentChecked (f f' : Follower) : Prop :=
  (f.state = .free → f' = f) ∧
  (f.state = .locked → 8 ≤ f.checkedSilent.toNat → f' = { f with
    state := .holdover, silent := f.checkedSilent, seen := false, syncMissing := satAdd f.syncMissing 1 }) ∧
  (f.state ≠ .free → ¬ (f.state = .locked ∧ 8 ≤ f.checkedSilent.toNat) →
    f' = { f with silent := f.checkedSilent, seen := false })

/-! ### The notices of a boundary or step (R125, R147, R155, R171, R181 to R183) -/

/-- The notices with the ages advanced by one period (R182). -/
def Management.aged (m : Management) : List Notice :=
  m.notices.map (fun n => { n with age := n.age.map (fun a => if a < 65535 then a + 1 else 65535) })

/-- A notice is due (R182). -/
def Notice.Due (resend : Nat) (n : Notice) : Prop := n.age = none ∨ ∃ a, n.age = some a ∧ resend ≤ a

/-- `n` is the first due notice of the queue once aged, between `pre` and `post`, and `m'` is ME with it sent: its age 0,
the notice kept, the overflow mark cleared (R182, R183). -/
def FirstDueSent (resend : Nat) (pre : List Notice) (n : Notice) (post : List Notice) (m m' : Management) : Prop :=
  m.aged = pre ++ n :: post ∧ (∀ x ∈ pre, ¬ x.Due resend) ∧ n.Due resend ∧
  m' = { m with notices := pre ++ { n with age := some 0 } :: post, overflow := false }

/-- The lease count of a boundary or step ends the claim of `tag` (R171). -/
def LeaseEnds (s : State) (tag : Half) : Prop := s.me.claim.holder = some tag ∧ s.me.claim.lease ≤ 1

/-- The notices that the boundary or step from `s` to `t` queues, whatever the order: COMMIT_APPLIED at a swap, LINK down of
each port dropped from UP, CLAIM_EXPIRED at the end of a claim, each once; and TIMING for each change of the timing state,
one, or two where the loss of the timing port comes before the re-evaluation (R125, R141, R143, R144, R155, R171). -/
def DueNotices (s t : State) (l : List (Topic × NoticePayload)) : Prop :=
  (l.filter (fun e => e.1 != .timing)).Nodup ∧
  (∀ topic payload, topic ≠ .timing → ((topic, payload) ∈ l ↔
    (s.banks.state = .armed ∧ topic = .commitApplied ∧ payload = .nothing) ∨
    (∃ p, s.banks.state = .armed ∧ SwapDrops s p ∧ topic = .link p ∧ payload = .link false) ∨
    (∃ tag, LeaseEnds s tag ∧ topic = .claimExpired tag ∧ payload = .nothing))) ∧
  let changes := l.filter (fun e => e.1 == .timing)
  (t.tf.state = s.tf.state → changes = []) ∧
  (t.tf.state ≠ s.tf.state → changes = [(.timing, .timing t.tf.state)] ∨
    (s.banks.state = .armed ∧ s.tf.state = .locked ∧ s.ports[s.part.timingPort].link = .up ∧
      inPortList s.banks.shadow.part.portEnable s.part.timingPort = false ∧ t.tf.state ≠ .holdover ∧
      changes = [(.timing, .timing .holdover), (.timing, .timing t.tf.state)]))

/-- The notice queue over the boundary or step from `s` to `t`: the notices of `before` are queued, which leaves `m`; the
ages advance and at most the first due notice is sent, which leaves `m'`; then the notices of `after` are queued, which is
nothing or the TIMING of the silent check (R141, R147, R181 to R183). -/
def BoundaryQueue (s t : State) (before after : List (Topic × NoticePayload)) (m m' : Management) : Prop :=
  DueNotices s t (before ++ after) ∧
  (after = [] ∨ (after = [(.timing, .timing .holdover)] ∧ 8 ≤ s.tf.checkedSilent.toNat)) ∧
  NoticesQueued before { s.me with slots := t.me.slots, claim := t.me.claim, cache := t.me.cache } m ∧
  (m' = { m with notices := m.aged } ∨ ∃ pre n post, FirstDueSent s.nextPart.resend pre n post m m') ∧
  NoticesQueued after m' t.me

/-- The boundary or step from `s` to `t` queues the notice `e`, however many wait; with room for all that it can queue, the
notice stands in the queue after it. -/
def Announced (s t : State) (e : Topic × NoticePayload) : Prop :=
  (∃ before after m m', BoundaryQueue s t before after m m' ∧ e ∈ before ++ after) ∧
  (s.me.notices.length ≤ 5 → ∃ n ∈ t.me.notices, n.topic = e.1 ∧ n.payload = e.2)

/-! ### Cells at lookup (R62 to R71) -/

/-- The ports once the good cell on port `p` has been counted (R156). -/
def receivedOn (s : State) (p : Port) : Vector PortState 8 :=
  s.ports.set p.val { s.ports[p] with errorRun := 0, counters :=
    { s.ports[p].counters with rxCells := satAdd s.ports[p].counters.rxCells 1 } } p.isLt

/-- A good cell on the UP port `p` comes to the lookup as one of stream `i`: its header is valid, it is no SYNC for TF and no
request for this part (R63 to R66). -/
def LookedUp (s : State) (p : Port) (c : Cell) (i : StreamId) : Prop :=
  s.ports[p].link = .up ∧ checkGood c = true ∧ (cellStreamId c).toNat = i.val ∧
  1 ≤ (cellByte c 0).toNat ∧ (cellByte c 0).toNat ≤ 5 ∧
  (cellByte c 0 = 1 → 1 ≤ cellSampleCount c ∧ cellSampleCount c ≤ 16) ∧
  ¬ (cellByte c 0 = 2 ∧ s.part.source = .follow ∧ s.part.timingPort = p) ∧
  ¬ (cellByte c 0 = 3 ∧ i = s.part.mgmtId)

/-- The sequence stage looks at the cell: a DATA cell under seq_check (R70). -/
def sequenceChecked (r : StreamRec) (c : Cell) : Bool := cellByte c 0 == 1 && r.seqCheck

/-- The lookup accepts the cell: no DROP, no guard for another port, no sequence accepted last (R68 to R70). -/
def Accepted (s : State) (p : Port) (c : Cell) (i : StreamId) : Prop :=
  LookedUp s p c i ∧ s.banks.active.streams[i].action ≠ .drop ∧
  (s.banks.active.streams[i].guard = none ∨ s.banks.active.streams[i].guard = some p) ∧
  (sequenceChecked s.banks.active.streams[i] c = true → s.streams[i].lastSeq ≠ some (cellByte c 4))

/-- The stream as its accepted cell is handed on: the sequence recorded with its GAP, ACCEPTED counted (R70, R71). -/
def acceptedStream (s : State) (c : Cell) (i : StreamId) : StreamState :=
  let k := s.streams[i].counters
  let checked := sequenceChecked s.banks.active.streams[i] c
  let skipped := match s.streams[i].lastSeq with | none => false | some m => cellByte c 4 != m + 1
  { lastSeq := if checked then some (cellByte c 4) else s.streams[i].lastSeq
    counters := { k with
      accepted := satAdd k.accepted 1, gap := if checked && skipped then satAdd k.gap 1 else k.gap } }

/-- The record forwards to `d`: its action is FORWARD or BOTH (R73). -/
def StreamRec.forwardsTo (r : StreamRec) (d : Dest) : Prop := r.action = .forward d ∨ ∃ f, r.action = .both d f

/-- The record contributes by `f`: its action is CONTRIBUTE or BOTH (R73). -/
def StreamRec.feeds (r : StreamRec) (f : Feed) : Prop := r.action = .contribute f ∨ ∃ d, r.action = .both d f

/-! ### Queues and buffers -/

/-- The number of DATA entries, across all ports, that refer to a buffer (R92). -/
def dataEntries (s : State) (b : BufId) : Nat := (allPorts.map (fun p => s.ports[p].data.count b)).sum

/-- The number of RESPONSE entries, across all ports, that refer to a slot (R98, R103). -/
def responseEntries (s : State) (r : RespId) : Nat :=
  (allPorts.map (fun p => s.ports[p].control.count (.response r))).sum

/-- A port after its link has left UP for `target` (R153, R104): its queues empty, each entry counted, its transmitter
IDLE, LINK_DOWNS counted, the error run 0. -/
def PortDropped (target : Link) (q q' : PortState) : Prop :=
  q'.link = target ∧ q'.signal = q.signal ∧ q'.errorRun = 0 ∧ q'.control = [] ∧ q'.data = [] ∧ q'.tx = .idle ∧
  q'.counters = { q.counters with
    linkDowns := satAdd q.counters.linkDowns 1
    egressFlush := satAdd q.counters.egressFlush (q.control.length + q.data.length) }

/-- Every entry of the queues has given back what it held (R94, R103). -/
def EntriesReturned (q : PortState) (s t : State) : Prop :=
  (∀ b, t.pool[b].cell = s.pool[b].cell ∧ t.pool[b].refs = s.pool[b].refs - q.data.count b) ∧
  ∀ r, t.me.slots[r] = if .response r ∈ q.control then none else s.me.slots[r]

/-! ### Requests (R163 to R174) -/

/-- ME can take the request `q` of the named row: it is the oldest queued, slot `r` is free, RESETTING is clear (R164). -/
def Takes (s : State) (name : Option RequestName) (q : Request) (rest : List Request) (r : RespId) : Prop :=
  s.me.requests = q :: rest ∧ freeSlot? s = some r ∧ s.me.resetting = false ∧ requestName (requestCode q) = name

/-- The request comes from the holder (R165, step 2). -/
def ByHolder (s : State) (q : Request) : Prop := s.me.claim.holder = some (controllerTag q)

/-- The request repeats the cached transaction of the holder (R165, step 3). -/
def Repeats (s : State) (q : Request) (e : CacheEntry) : Prop :=
  ByHolder s q ∧ s.me.cache = some e ∧ e.transactionTag = transactionTag q

/-- The request passes steps 1 and 3 of R165: its tag is not 0 and it is no duplicate. -/
def Passes (s : State) (q : Request) : Prop := controllerTag q ≠ 0 ∧ ∀ e, ¬ Repeats s q e

/-- The claim record after step 2 of R165 (R168). -/
def renewed (s : State) (q : Request) : Claim :=
  if s.me.claim.holder = some (controllerTag q) then { s.me.claim with port := q.port, lease := s.part.leaseLen }
  else s.me.claim

/-- The response can be appended: its port is enabled, UP and has room in CONTROL (R166). -/
def Deliverable (s : State) (q : Request) : Prop :=
  inPortList s.part.portEnable q.port = true ∧ s.ports[q.port].link = .up ∧ s.ports[q.port].control.length < 4

/-- The response `x` in slot `r` is placed on its port, or discarded with RSP_DROP (R166, R97, R100). `s` is the state
that the request has made. -/
def Responded (r : RespId) (q : Request) (x : Response) (s t : State) : Prop :=
  (∀ p, p ≠ q.port → t.ports[p] = s.ports[p]) ∧
  (Deliverable s q →
    t.me.slots = s.me.slots.set r.val (some x) r.isLt ∧
    ∃ tx, t.ports[q.port] = { s.ports[q.port] with
        control := s.ports[q.port].control ++ [.response r], tx := tx } ∧
      (s.ports[q.port].tx ≠ .idle → tx = s.ports[q.port].tx) ∧
      (s.ports[q.port].tx = .idle → s.ports[q.port].control = [] → tx = .sending .control (responseCell x))) ∧
  (¬ Deliverable s q →
    t.me.slots = s.me.slots ∧
    t.ports[q.port] = { s.ports[q.port] with counters :=
      { s.ports[q.port].counters with rspDrop := satAdd s.ports[q.port].counters.rspDrop 1 } })

/-- The response built for a request (R166). -/
def responseFor (s : State) (q : Request) (code : Byte) (st : Status) (data : List Byte) : Response :=
  { replyId := replyId q, controllerTag := controllerTag q, transactionTag := transactionTag q, code := code,
    status := st, data := data, port := q.port, period := s.pt.period }

/-- A request answered without any effect beyond step 2, the response and the cache: what R165, R166, R173 leave of
the state `s` in which ME took it. -/
def Answered (q : Request) (rest : List Request) (r : RespId) (st : Status) (data : List Byte) (s t : State) : Prop :=
  t.pt = s.pt ∧ t.tf = s.tf ∧ t.groups = s.groups ∧ t.streams = s.streams ∧ t.pool = s.pool ∧ t.banks = s.banks ∧
  t.pending = s.pending ∧
  t.me.requests = rest ∧ t.me.resetting = s.me.resetting ∧ t.me.notices = s.me.notices ∧
  t.me.nextNumber = s.me.nextNumber ∧ t.me.overflow = s.me.overflow ∧ t.me.claim = renewed s q ∧
  t.me.cache = (if s.me.claim.holder = some (controllerTag q) then
    some ⟨transactionTag q, requestCode q, st, data⟩ else s.me.cache) ∧
  Responded r q (responseFor s q (requestCode q) st data) s t

/-! ### The tables -/

/-- A port set has no bit in both base and wildcard (R79). -/
def Dest.legal (d : Dest) : Prop := d.base &&& d.wild = 0

/-- The destination set of an action, when it has one, is legal. -/
def Action.legal (a : Action) : Prop :=
  match a with
  | .forward d | .both d _ => d.legal
  | .drop | .contribute _ => True

/-- A group record in the ranges of 2.1 with its own checks (R116). -/
def GroupRec.legal (r : GroupRec) : Prop :=
  r.openTick ≤ 16382 ∧ r.openTick < r.closeTick ∧ r.closeTick ≤ 16383 ∧ 1 ≤ r.contributors ∧ r.contributors ≤ 8 ∧
  1 ≤ r.quorum ∧ r.quorum ≤ r.contributors ∧ 1 ≤ r.sampleCount ∧ r.sampleCount ≤ 16 ∧ r.dest.legal

/-- A Part record in the ranges of 7.2 (R117). -/
def PartRec.legal (r : PartRec) : Prop :=
  64 ≤ r.baseLen ∧ r.baseLen ≤ 16383 ∧ r.fraction ≤ 15 ∧ r.tolerance ≤ 63 ∧ 16 ≤ r.leaseLen ∧ r.leaseLen ≤ 65535 ∧
  1 ≤ r.resend ∧ r.resend ≤ 65535

/-- The tolerance that the WINDOW check takes off the base length (R119). -/
def PartRec.margin (r : PartRec) : Nat :=
  match r.source with
  | .free => 0
  | .follow => r.tolerance

/-- Every enabled group of the bank closes at or below B−1−m (R119, WINDOW). -/
def Bank.windowsFit (b : Bank) : Prop :=
  ∀ g : GroupId, b.groups[g].enabled = true → b.groups[g].closeTick + b.part.margin + 1 ≤ b.part.baseLen

/-- The group and slot that a stream record names, when its action is CONTRIBUTE or BOTH. -/
def StreamRec.names (r : StreamRec) (g : GroupId) (i : Slot) : Prop := ∃ f, r.feeds f ∧ f.group = g ∧ f.slot = i

/-! ### Layouts (11_, 11.1 to 11.3) -/

/-- The bytes `b 0`, `b 1`, … hold a stream record as 11.3 lays it out; the bytes of absent fields are left open. -/
def StreamLayout (b : Nat → Byte) (r : StreamRec) : Prop :=
  (r.action = .drop → b 0 = 0) ∧ (∀ d, r.action = .forward d → b 0 = 1) ∧
  (∀ f, r.action = .contribute f → b 0 = 2) ∧ (∀ d f, r.action = .both d f → b 0 = 3) ∧
  (b 1).getLsbD 0 = decide (r.echo = .allow) ∧ (b 1).getLsbD 1 = r.seqCheck ∧
  (b 1).getLsbD 2 = r.rename.isSome ∧ (b 1).getLsbD 3 = r.guard.isSome ∧
  (∀ id, r.rename = some id → (b 2 ++ b 3 : Half).toNat = id.val) ∧ (∀ p, r.guard = some p → (b 4).toNat = p.val) ∧
  (∀ d, r.forwardsTo d → (b 5).toNat = d.base.toNat ∧ (b 6).toNat = d.wild.toNat) ∧
  (∀ f, r.feeds f → (b 7).toNat = f.group.val ∧ (b 8).toNat = f.slot.val ∧ (b 9).toNat = f.shift.val)

/-- What a read reports where a field of a stream record is absent (R193). -/
def AbsentFieldsReported (b : Nat → Byte) (r : StreamRec) : Prop :=
  (r.rename = none → b 2 = 0 ∧ b 3 = 0) ∧ (r.guard = none → b 4 = 0) ∧
  ((∀ d, ¬ r.forwardsTo d) → b 5 = 255 ∧ b 6 = 255) ∧ ((∀ f, ¬ r.feeds f) → b 7 = 255 ∧ b 8 = 255 ∧ b 9 = 255)

/-- The bytes hold a group record as 11.3 lays it out. -/
def GroupLayout (b : Nat → Byte) (r : GroupRec) : Prop :=
  (b 0).getLsbD 0 = r.enabled ∧ (b 0).getLsbD 1 = decide (r.mode = .oneShot) ∧ (b 0).getLsbD 2 = decide (r.fill = .hold) ∧
  (b 0).getLsbD 3 = decide (r.onShort = .mute) ∧ (b 0).getLsbD 4 = r.notifyShort ∧
  (r.op, (b 1).toNat) ∈ [(CombineOp.sum, 0), (.max, 1), (.min, 2), (.priority, 3)] ∧
  (b 2 ++ b 3 : Half).toNat = r.openTick ∧ (b 4 ++ b 5 : Half).toNat = r.closeTick ∧ (b 6).toNat = r.contributors ∧
  (b 7).toNat = r.quorum ∧ (b 8).toNat = r.sampleCount ∧ (b 9 ++ b 10 : Half).toNat = r.outStream.val ∧
  (b 11).toNat = r.dest.base.toNat ∧ (b 12).toNat = r.dest.wild.toNat

/-- The bytes hold the Part record as 11.3 lays it out. -/
def PartLayout (b : Nat → Byte) (r : PartRec) : Prop :=
  b 0 = r.mgmtPorts ∧ b 1 = r.portEnable ∧ b 2 = r.syncOut ∧ (b 3).getLsbD 0 = decide (r.source = .follow) ∧
  (b 4 ++ b 5 : Half).toNat = r.mgmtId.val ∧ (b 6 ++ b 7 : Half).toNat = r.baseLen ∧ (b 8).toNat = r.fraction ∧
  (b 9).toNat = r.timingPort.val ∧ (b 10).toNat = r.tolerance ∧ (b 11 ++ b 12 : Half).toNat = r.syncId.val ∧
  (b 13 ++ b 14 : Half).toNat = r.leaseLen ∧ (b 15 ++ b 16 : Half).toNat = r.resend

/-- A cell that the part originates: its header, with zeros where the header has no field, and its check (R190, R191). -/
def Originated (c : Cell) (kind flags : Byte) (id : StreamId) (sequence : Byte) (sampleCount : Nat) (period : Half) :
    Prop :=
  cellByte c 0 = kind ∧ cellByte c 1 = flags ∧ (cellHalf c 2).toNat = id.val ∧ cellByte c 4 = sequence ∧
  cellSampleCount c = sampleCount ∧ cellPeriod c = period ∧ (∀ i, 8 ≤ i → i ≤ 11 → cellByte c i = 0) ∧
  checkGood c = true

/-! ### The commit checks (R119) -/

/-- All five commit checks hold of a bank (R119). -/
def Bank.consistent (b : Bank) : Prop :=
  b.windowsFit ∧
  (∀ (i : StreamId) g k, b.streams[i].names g k → k.val < b.groups[g].contributors) ∧
  (∀ (i j : StreamId) g k, b.streams[i].names g k → b.streams[j].names g k → i = j) ∧
  (∃ p : Port, inPortList b.part.mgmtPorts p = true ∧ inPortList b.part.portEnable p = true) ∧
  (b.part.source = .follow → inPortList b.part.portEnable b.part.timingPort = true)

/-! ### Properties that every event keeps -/

/-- The Part record and every group record of a bank are in their ranges (R116, R117). -/
def Bank.legal (b : Bank) : Prop := b.part.legal ∧ ∀ g : GroupId, b.groups[g].legal

/-- The schedule (R1, R3, R5, R19, R119): the tick counter lies inside the period, the period is long enough for every
window of the active bank, and an OPEN group is enabled and not past its close_tick. -/
def ScheduleInv (s : State) : Prop :=
  s.banks.active.legal ∧ s.banks.shadow.legal ∧
  64 ≤ s.pt.len ∧ s.pt.len ≤ 16384 ∧ s.pt.tick < s.pt.len ∧ s.pt.phase ≤ 15 ∧
  s.banks.active.part.baseLen ≤ s.pt.len + s.banks.active.part.margin ∧
  s.banks.active.windowsFit ∧ (s.banks.state = .armed → s.banks.shadow.windowsFit) ∧
  ∀ g : GroupId, s.groups[g].state = .opened →
    s.banks.active.groups[g].enabled = true ∧ s.pt.tick ≤ s.banks.active.groups[g].closeTick

/-- The banks (R111, R127): a position without a touched mark holds the same record in both banks, and the positions
that a refresh has copied have no mark. -/
def BanksInv (s : State) : Prop :=
  (∀ i : StreamId, s.banks.touchedStreams[i] = false → s.banks.shadow.streams[i] = s.banks.active.streams[i]) ∧
  (∀ g : GroupId, s.banks.touchedGroups[g] = false → s.banks.shadow.groups[g] = s.banks.active.groups[g]) ∧
  (s.banks.touchedPart = false → s.banks.shadow.part = s.banks.active.part) ∧
  (s.banks.state = .refresh →
    (∀ i : StreamId, i.val < s.banks.copyPos → s.banks.touchedStreams[i] = false) ∧
    (∀ g : GroupId, 1024 + g.val < s.banks.copyPos → s.banks.touchedGroups[g] = false) ∧
    (1088 < s.banks.copyPos → s.banks.touchedPart = false))

/-- The timing state is FREE exactly when the active source is FREE (R133), over banks that satisfy `BanksInv`; under FREE
no SYNC waits for TF (R64, R135) and no step for PT (R136). -/
def TimingInv (s : State) : Prop :=
  BanksInv s ∧ (s.tf.state = .free ↔ s.part.source = .free) ∧ (s.part.source = .free → s.tf.handed = []) ∧
  (s.part.source = .free → s.pt.stepRequest = none)

/-- An accumulator is OFF exactly when its group is disabled in the active bank (R16, R18), over banks that satisfy
`BanksInv`. -/
def GroupsInv (s : State) : Prop :=
  BanksInv s ∧ ∀ g : GroupId, s.groups[g].state = .off ↔ s.banks.active.groups[g].enabled = false

/-- The links (R150): a port is DOWN exactly when it is disabled or sees no signal, and the queues of a port that is not
UP are empty and its transmitter IDLE (R97, R99). -/
def LinkInv (s : State) : Prop :=
  ∀ p : Port, (s.ports[p].link = .down ↔ ¬ (s.enabled p = true ∧ s.ports[p].signal = true)) ∧
    (s.ports[p].link ≠ .up → s.ports[p].control = [] ∧ s.ports[p].data = [] ∧ s.ports[p].tx = .idle)

/-- The queues (R92, R96, R98, R103): each buffer's count is the number of entries that refer to it, no queue exceeds
its places or holds a buffer twice, and a slot holds a response exactly when one entry refers to it. -/
def QueuesInv (s : State) : Prop :=
  (∀ b : BufId, s.pool[b].refs = dataEntries s b) ∧
  (∀ r : RespId, responseEntries s r = if s.me.slots[r] = none then 0 else 1) ∧
  ∀ p : Port, s.ports[p].control.length ≤ 4 ∧ s.ports[p].data.length ≤ 64 ∧ s.ports[p].data.Nodup ∧
    (∀ c, s.ports[p].tx = .sending .control c → s.ports[p].control ≠ []) ∧
    (∀ c, s.ports[p].tx = .sending .data c → s.ports[p].data ≠ [])

/-- ME (R163, R168, R173, R180): at most 4 requests; without a holder no cached transaction; at most 16 notices, no two
of one kind and subject, each with a repeat count 1..255 and an age that is never or at most 65535. -/
def ManagementInv (s : State) : Prop :=
  s.me.requests.length ≤ 4 ∧ (s.me.claim.holder = none → s.me.cache = none) ∧
  s.me.notices.length ≤ 16 ∧ (s.me.notices.map (·.topic)).Nodup ∧
  ∀ n ∈ s.me.notices, 1 ≤ n.repeats ∧ n.repeats ≤ 255 ∧ ∀ a, n.age = some a → a ≤ 65535

end Sys2Proof.Machine
end

