-- ==== Sys2Proof/Certificates/Slice0/Obligations.lean ====
section
/-!
DEFINITION. The statements for the provers. A command's result is stated as the next state it answers, under hypotheses on
the state and operands alone, with what it leaves unchanged beside it.
-/

open Sys2Proof Sys2Proof.Machine

/-! ### The queue of commands -/

/-- One step takes the command at the front of the queue and runs it on the queue's rest. -/
def Obligations.StepRunsTheFrontCommand : Prop :=
  ∀ (c : Instr) (s : State), step { s with pending := c :: s.pending } = exec c s

/-- The model's choice (notes/assumptions/4.md): with no command waiting the block idles. -/
def Obligations.EmptyQueueIdles : Prop := ∀ s : State, s.pending = [] → step s = .next s

/-- No command stops the part, and none changes the queue of waiting commands (the model's choice for the queue:
notes/assumptions/17.md). -/
def Obligations.CommandsCompleteAndKeepTheQueue : Prop :=
  ∀ (c : Instr) (s : State), ∃ t, exec c s = .next t ∧ t.pending = s.pending

/-! ### The resets -/

/-- POWER_ON_RESET leaves every block at its power-on values (R14, R38, R78, R95, R109, R131, R149, R161, R188). -/
def Obligations.PowerOnResetValues : Prop :=
  ∀ s : State, ∃ t, exec .powerOnReset s = .next t ∧
    t.pt = { tick := 0, len := 1000, phase := 0, period := 0, pendingAdj := none, pendingNum := none,
             stepRequest := none } ∧
    t.tf = { state := .free, miss := 0, silent := 0, seen := false, lastOffset := none, syncInTol := 0, syncOutTol := 0,
             syncMissing := 0, steps := 0, numberSlip := 0, handed := [] } ∧
    (∀ g : GroupId, t.groups[g].state = .off ∧ (∀ i : Slot, t.groups[g].arrived[i] = none ∧ t.groups[g].holds[i] = none) ∧
      t.groups[g].result = .values [0] ∧ t.groups[g].filled = false ∧ t.groups[g].cut = false ∧
      t.groups[g].emission = 0 ∧ t.groups[g].counters = ⟨0, 0, 0, 0, 0, 0, 0⟩) ∧
    (∀ i : StreamId, t.streams[i].lastSeq = none ∧ t.streams[i].counters = ⟨0, 0, 0, 0, 0, 0, 0, 0, 0, 0, 0, 0, 0⟩) ∧
    (∀ b : BufId, t.pool[b].refs = 0) ∧
    (∀ p : Port, t.ports[p] = {
      link := .down, signal := false, errorRun := 0, counters := ⟨0, 0, 0, 0, 0, 0, 0, 0, 0, 0, 0⟩, control := [], data := [], tx := .idle }) ∧
    t.banks.shadow = t.banks.active ∧ t.banks.state = .idle ∧ t.banks.touchedPart = false ∧
    (∀ i : StreamId, t.banks.touchedStreams[i] = false ∧
      t.banks.active.streams[i] = { action := .drop, echo := .suppress, rename := none, guard := none, seqCheck := false }) ∧
    (∀ g : GroupId, t.banks.touchedGroups[g] = false ∧
      t.banks.active.groups[g] = {
        enabled := false, mode := .continuous, op := .sum, openTick := 0, closeTick := 1,
        contributors := 1, quorum := 1, fill := .identity, onShort := .suppress, sampleCount := 1, outStream := 0,
        dest := ⟨0, 0⟩, notifyShort := false }) ∧
    t.banks.active.part = {
      mgmtId := 1023, mgmtPorts := 255, portEnable := 255, baseLen := 1000, fraction := 0,
      source := .free, timingPort := 0, tolerance := 8, syncOut := 0, syncId := 1022, leaseLen := 2000, resend := 200 } ∧
    t.me.requests = [] ∧ (∀ r : RespId, t.me.slots[r] = none) ∧ t.me.resetting = false ∧ t.me.claim.holder = none ∧
    t.me.cache = none ∧ t.me.notices = [⟨0, .startedPowerOn, .nothing, 1, none⟩] ∧ t.me.nextNumber = 1 ∧
    t.me.overflow = false

/-- SOFT_RESET, once it has begun, restarts every block and keeps the banks, the touched marks and the links (R15, R39,
R78, R95, R109, R132, R149, R162, R187). Three clauses are the model's: that the reset has begun once no response slot holds
the RESET response (notes/assumptions/8.md); that the SYNCs handed over and not yet taken are kept, to be taken after the
reset (the last sentence of R149; notes/assumptions/7.md); and that a step asked for and not yet taken is dropped, with an
armed swap it would have made (notes/assumptions/25.md). -/
def Obligations.SoftResetValues : Prop :=
  ∀ s : State, s.me.resetting = true →
    (∀ (r : RespId) x, s.me.slots[r] = some x → ¬ (x.code = 23 ∧ x.status = .ok)) →
    ∃ t, exec .softReset s = .next t ∧
    t.pt = { tick := 0, len := s.banks.active.part.baseLen, phase := 0, period := 0, pendingAdj := none,
             pendingNum := none, stepRequest := none } ∧
    (s.banks.active.part.source = .free → t.tf.state = .free) ∧
    (s.banks.active.part.source = .follow → t.tf.state = .acquire) ∧
    t.tf = { state := t.tf.state, miss := 0, silent := 0, seen := false, lastOffset := none, syncInTol := 0,
             syncOutTol := 0, syncMissing := 0, steps := 0, numberSlip := 0, handed := s.tf.handed } ∧
    (∀ g : GroupId, (∀ i : Slot, t.groups[g].arrived[i] = none ∧ t.groups[g].holds[i] = none) ∧
      t.groups[g].filled = false ∧ t.groups[g].cut = false ∧ t.groups[g].emission = 0 ∧
      t.groups[g].counters = ⟨0, 0, 0, 0, 0, 0, 0⟩ ∧
      (s.banks.active.groups[g].enabled = true →
        t.groups[g].state = .idle ∧ IsIdentity s.banks.active.groups[g] t.groups[g].result) ∧
      (s.banks.active.groups[g].enabled = false →
        t.groups[g].state = .off ∧ ∃ n, t.groups[g].result = .values (List.replicate n 0))) ∧
    (∀ i : StreamId, t.streams[i].lastSeq = none ∧ t.streams[i].counters = ⟨0, 0, 0, 0, 0, 0, 0, 0, 0, 0, 0, 0, 0⟩) ∧
    (∀ b : BufId, t.pool[b].refs = 0) ∧
    (∀ p : Port, t.ports[p] = {
      link := s.ports[p].link, signal := s.ports[p].signal, errorRun := 0, counters := ⟨0, 0, 0, 0, 0, 0, 0, 0, 0, 0, 0⟩, control := [], data := [], tx := .idle }) ∧
    t.banks.active = s.banks.active ∧ t.banks.shadow = s.banks.shadow ∧
    t.banks.touchedStreams = s.banks.touchedStreams ∧ t.banks.touchedGroups = s.banks.touchedGroups ∧
    t.banks.touchedPart = s.banks.touchedPart ∧
    (s.banks.state = .armed → t.banks.state = .idle) ∧ (s.banks.state ≠ .armed → t.banks.state = s.banks.state) ∧
    (s.banks.state = .refresh → t.banks.copyPos = 0) ∧
    t.me.requests = [] ∧ (∀ r : RespId, t.me.slots[r] = none) ∧ t.me.resetting = false ∧ t.me.claim.holder = none ∧
    t.me.cache = none ∧ t.me.notices = [⟨0, .startedSoft, .nothing, 1, none⟩] ∧ t.me.nextNumber = 1 ∧
    t.me.overflow = false

/-! ### Properties that every event keeps -/

/-- The state after power-on reset has every property of the next six statements. -/
def Obligations.ResetMeetsTheInvariants : Prop :=
  ScheduleInv State.reset ∧ TimingInv State.reset ∧ GroupsInv State.reset ∧ LinkInv State.reset ∧
  QueuesInv State.reset ∧ ManagementInv State.reset

/-- Every step keeps the schedule: both banks' Part and group records in their ranges, the tick inside the period, every
window of the active bank inside the period, and an OPEN group not past its close_tick (R1, R5, R19, R116, R117, R119). -/
def Obligations.StepsKeepTheSchedule : Prop := ∀ s t : State, ScheduleInv s → step s = .next t → ScheduleInv t

/-- Every step keeps: without a touched mark both banks hold the same record, the timing state is FREE exactly when the
active source is FREE, and under FREE no SYNC waits for TF and no step for PT (R64, R127, R133, R136). For the last a step
waits for the SYNCs that its swap would divert otherwise, the model's reading of R135 (notes/assumptions/20.md). -/
def Obligations.StepsKeepTheTimingState : Prop := ∀ s t : State, TimingInv s → step s = .next t → TimingInv t

/-- Every step keeps: an accumulator is OFF exactly when its group is disabled in the active bank (R16, R18). -/
def Obligations.StepsKeepTheGroups : Prop := ∀ s t : State, GroupsInv s → step s = .next t → GroupsInv t

/-- Every step keeps: a port is DOWN exactly when it is disabled or without signal, and a port that is not UP has empty
queues and an IDLE transmitter (R97, R150). -/
def Obligations.StepsKeepTheLinks : Prop := ∀ s t : State, LinkInv s → step s = .next t → LinkInv t

/-- Every step keeps: each buffer's count is the number of entries that refer to it, the queues stay in their bounds,
and each held response slot has exactly one entry (R92, R96, R103). -/
def Obligations.StepsKeepTheQueues : Prop := ∀ s t : State, QueuesInv s → step s = .next t → QueuesInv t

/-- Every step keeps: at most 4 requests and 16 notices, no two notices alike, no cache without a holder (R163, R173,
R180). -/
def Obligations.StepsKeepManagement : Prop := ∀ s t : State, ManagementInv s → step s = .next t → ManagementInv t

/-! ### Encoding of records -/

/-- Each record, encoded as a read reports it (with either touched mark), stands byte by byte as 11.3 lays it out, absent
fields as R193 reports them, and is decoded by a write as itself (R193). -/
def Obligations.RecordsDecodeAsEncoded : Prop :=
  (∀ (r : StreamRec) (m : Bool), let e := encodeStreamRec r m
    e.length = 10 ∧ StreamLayout (e.getD · 0) r ∧ AbsentFieldsReported (e.getD · 0) r ∧ (e.getD 1 0).getLsbD 7 = m ∧
    ∀ (c : Cell) (k : Nat), r.action.legal → (∀ i, i < 10 → cellByte c (k + i) = e.getD i 0) →
      decodeStreamRec c k = .ok r) ∧
  (∀ (r : GroupRec) (m : Bool), r.legal → let e := encodeGroupRec r m
    e.length = 13 ∧ GroupLayout (e.getD · 0) r ∧ (e.getD 0 0).getLsbD 7 = m ∧
    ∀ (c : Cell) (k : Nat), (∀ i, i < 13 → cellByte c (k + i) = e.getD i 0) → decodeGroupRec c k = .ok r) ∧
  (∀ (r : PartRec) (m : Bool), r.legal → let e := encodePartRec r m
    e.length = 17 ∧ PartLayout (e.getD · 0) r ∧ (e.getD 3 0).getLsbD 7 = m ∧
    ∀ (c : Cell) (k : Nat), (∀ i, i < 17 → cellByte c (k + i) = e.getD i 0) → decodePartRec c k = .ok r)

/-! ### Ticks, boundaries and the swap -/

/-- TICK_END advances the tick counter by one and, outside a refresh, changes nothing else (R1). When a tick may end is the
model's reading (notes/assumptions/2.md), and the age of the copy that a refresh counts is a field of the model's own
(notes/assumptions/23.md). -/
def Obligations.TickEndAdvances : Prop :=
  ∀ s : State, tickMayEnd s = true → s.pt.tick + 1 < s.pt.len → ∃ t, exec .tickEnd s = .next t ∧
    t.pt = { s.pt with tick := s.pt.tick + 1 } ∧ t.tf = s.tf ∧ t.groups = s.groups ∧ t.streams = s.streams ∧
    t.pool = s.pool ∧ t.ports = s.ports ∧ t.me = s.me ∧ t.pending = s.pending ∧
    (s.banks.state ≠ .refresh → t.banks = s.banks) ∧
    (s.banks.state = .refresh → t.banks = { s.banks with copyAge := s.banks.copyAge + 1 })

/-- At every boundary, ordinary or step, F is added to the phase accumulator; the base is B+1 when the sum reaches 16,
which the accumulator then keeps less 16, else B; without an adjustment the length is the base (R3). A step is one that has
been asked for, or that the SYNC TF takes now asks for; it does not begin while a SYNC waits that its swap would divert
otherwise (notes/assumptions/20.md). -/
def Obligations.PhaseAccumulatesAtEveryBoundary : Prop :=
  ∀ s : State, s.pt.phase ≤ 15 → s.nextPart.fraction ≤ 15 →
    let phased := fun (t : State) (adjusted : Prop) =>
      t.pt.phase ≤ 15 ∧
      (16 ≤ s.pt.phase + s.nextPart.fraction →
        t.pt.phase + 16 = s.pt.phase + s.nextPart.fraction ∧ (¬ adjusted → t.pt.len = s.nextPart.baseLen + 1)) ∧
      (s.pt.phase + s.nextPart.fraction < 16 →
        t.pt.phase = s.pt.phase + s.nextPart.fraction ∧ (¬ adjusted → t.pt.len = s.nextPart.baseLen))
    (∀ sch, BoundaryDue s → ∃ t, exec (.boundary sch) s = .next t ∧
      phased t (s.pt.pendingAdj ≠ none ∧ s.nextPart.source = .follow)) ∧
    (∀ first sch,
      ((s.pt.stepRequest ≠ none ∧ (MovesTiming s → s.tf.handed = [])) ∨
        (s.pt.stepRequest = none ∧ s.tf.state = .acquire ∧
          ∃ n rest, s.tf.handed = n :: rest ∧ (MovesTiming s → rest = []))) →
      ∃ t, exec (.syncTaken (.all first) sch) s = .next t ∧ phased t False)

/-- BOUNDARY begins a period at tick 0 with the pending number or the next one, and a length of the base changed by the
pending adjustment, limited to the tolerance and to 64..16384, or unchanged under FREE; a step begins one at tick 0 with
the SYNC's number and a length of the base, where no SYNC waits that its swap would divert otherwise
(notes/assumptions/20.md). Neither leaves a pending value (R5, R6, R7, R12). -/
def Obligations.BoundaryBeginsThePeriod : Prop :=
  ∀ (s : State) (sch : List BoundaryAct),
    let base : Nat := if 16 ≤ s.pt.phase + s.nextPart.fraction then s.nextPart.baseLen + 1 else s.nextPart.baseLen
    (BoundaryDue s → ∃ t, exec (.boundary sch) s = .next t ∧
      t.pt.tick = 0 ∧ t.pt.pendingAdj = none ∧ t.pt.pendingNum = none ∧
      (∀ n, s.pt.pendingNum = some n → t.pt.period = n) ∧
      (s.pt.pendingNum = none → t.pt.period = s.pt.period + 1) ∧
      let m : Int := s.nextPart.tolerance
      (s.pt.pendingAdj = none → t.pt.len = base) ∧
      (s.nextPart.source = .free → t.pt.len = base) ∧
      (∀ d, s.pt.pendingAdj = some d → s.nextPart.source = .follow →
        (t.pt.len : Int) = max 64 (min 16384 ((base : Int) + max (-m) (min d m))))) ∧
    (∀ first n, s.pt.stepRequest = some n → (MovesTiming s → s.tf.handed = []) →
      ∃ t, exec (.syncTaken (.all first) sch) s = .next t ∧
      t.pt.tick = 0 ∧ t.pt.period = n ∧ t.pt.len = base ∧ t.pt.pendingAdj = none ∧ t.pt.pendingNum = none ∧
      t.pt.stepRequest = none)

/-- A boundary or a step without a swap: DONE returns to IDLE; streams, buffers, links, DATA queues, banks, requests and
responses are left alone; of the counters of ports SYNC_SKIP alone can change, within sync_out; CONTROL queues only grow,
and the transmitters that they do not start stay (R7, R12, R19, R122, R158, R163). -/
def Obligations.BoundaryWithoutSwapFrame : Prop :=
  ∀ (s : State) (c : Instr) (sch : List BoundaryAct), Begins c sch s → s.banks.state ≠ .armed →
    ∃ t, exec c s = .next t ∧
    (∀ g : GroupId, (s.groups[g].state = .done → t.groups[g] = { s.groups[g] with state := .idle }) ∧
      (s.groups[g].state ≠ .done → t.groups[g] = s.groups[g])) ∧
    t.streams = s.streams ∧ t.pool = s.pool ∧ t.pending = s.pending ∧
    t.banks = { s.banks with copyAge := t.banks.copyAge } ∧
    (∀ p : Port, ControlGrew s p s.ports[p] t.ports[p]) ∧
    t.me.requests = s.me.requests ∧ t.me.slots = s.me.slots ∧ t.me.resetting = s.me.resetting ∧
    FollowerKept s.tf t.tf ∧ t.tf.miss = s.tf.miss

/-- A boundary or a step in ARMED swaps the banks and begins the refresh; touched groups and streams are reset, the others
keep their state; COMMIT_APPLIED is queued. Requests stay queued, RESETTING stays, the cells stored in the pool stay, and
TF keeps its last offset, the SYNCs it has to take and its timing counters but for SYNC_MISSING (R12, R20, R21, R77, R122, R124,
R125, R163). What a swap does to ports, reference counts and response slots is `SwapFollowsPortEnable`. -/
def Obligations.BoundarySwapsArmedBanks : Prop :=
  ∀ (s : State) (c : Instr) (sch : List BoundaryAct), Begins c sch s → s.banks.state = .armed →
    ∃ t, exec c s = .next t ∧
    t.banks.active = s.banks.shadow ∧ t.banks.shadow = s.banks.active ∧ t.banks.state = .refresh ∧
    t.banks.copyPos = 0 ∧ t.banks.touchedStreams = s.banks.touchedStreams ∧
    t.banks.touchedGroups = s.banks.touchedGroups ∧ t.banks.touchedPart = s.banks.touchedPart ∧
    (∀ g : GroupId, s.banks.touchedGroups[g] = true →
      t.groups[g].emission = s.groups[g].emission ∧ t.groups[g].counters = s.groups[g].counters ∧
      (∀ i : Slot, t.groups[g].arrived[i] = none ∧ t.groups[g].holds[i] = none) ∧
      t.groups[g].filled = false ∧ t.groups[g].cut = false ∧
      (s.banks.shadow.groups[g].enabled = true →
        t.groups[g].state = .idle ∧ IsIdentity s.banks.shadow.groups[g] t.groups[g].result) ∧
      (s.banks.shadow.groups[g].enabled = false →
        t.groups[g].state = .off ∧ ∃ n, t.groups[g].result = .values (List.replicate n 0))) ∧
    (∀ g : GroupId, s.banks.touchedGroups[g] = false →
      (s.groups[g].state = .done → t.groups[g] = { s.groups[g] with state := .idle }) ∧
      (s.groups[g].state ≠ .done → t.groups[g] = s.groups[g])) ∧
    (∀ i : StreamId, t.streams[i].counters = s.streams[i].counters ∧
      (s.banks.touchedStreams[i] = true → t.streams[i].lastSeq = none) ∧
      (s.banks.touchedStreams[i] = false → t.streams[i].lastSeq = s.streams[i].lastSeq)) ∧
    Announced s t (.commitApplied, .nothing) ∧
    t.pending = s.pending ∧ t.me.requests = s.me.requests ∧ t.me.resetting = s.me.resetting ∧
    (∀ b : BufId, t.pool[b].cell = s.pool[b].cell) ∧ FollowerKept s.tf t.tf

/-- At a swap, of a boundary or a step, a port that the new port_enable list leaves out goes DOWN, from UP with the flush
of its queues and LINK down queued; a port that it adds becomes TRAINING when it sees a signal; a port in both lists or in
neither keeps its link (R153, R155, R159). The entries of the ports dropped from UP return what they held: a buffer's count
falls by one for each, a slot whose response stood there is free, and every other count and slot stays (R94, R103, R104).
Of a port that is not left out, DATA, the error run and the counters other than SYNC_SKIP stay (R158). -/
def Obligations.SwapFollowsPortEnable : Prop :=
  ∀ (s : State) (c : Instr) (sch : List BoundaryAct), Begins c sch s → s.banks.state = .armed →
    ∃ t, exec c s = .next t ∧
    (∀ p : Port,
      let was := inPortList s.banks.active.part.portEnable p
      let is := inPortList s.banks.shadow.part.portEnable p
      let q := s.ports[p]
      t.ports[p].signal = q.signal ∧
      (SwapDrops s p → PortDropped .down q t.ports[p] ∧ Announced s t (.link p, .link false)) ∧
      (was = true → is = false → q.link ≠ .up → t.ports[p] = { q with link := .down }) ∧
      (was = false → is = true →
        let link := if q.link = .down ∧ q.signal = true then .training else q.link
        ControlGrew s p { q with link := link } t.ports[p] ∧ (q.link ≠ .up → t.ports[p] = { q with link := link })) ∧
      (was = is → ControlGrew s p q t.ports[p])) ∧
    (∀ (l : List Port) (b : BufId), l.Nodup → (∀ p, p ∈ l ↔ SwapDrops s p) →
      t.pool[b].cell = s.pool[b].cell ∧
      t.pool[b].refs = s.pool[b].refs - (l.map (fun p => s.ports[p].data.count b)).sum) ∧
    ∀ r : RespId,
      ((∃ p, SwapDrops s p ∧ ControlEntry.response r ∈ s.ports[p].control) → t.me.slots[r] = none) ∧
      ((∀ p, SwapDrops s p → ControlEntry.response r ∉ s.ports[p].control) → t.me.slots[r] = s.me.slots[r])

/-- At a swap of a touched Part record, of a boundary or a step, TF takes its state from the old and new source and
timing_port, a new state is reported by TIMING (R143, R147), and then, in the row that keeps both, the silent check is made
(R141), after a lost timing port has ended a lock (R142). That ACQUIRE by a change of timing_port makes no silent check,
whatever state it came from, is the model's reading of R141's exemption (notes/assumptions/13.md). -/
def Obligations.SwapReevaluatesTiming : Prop :=
  ∀ (s : State) (c : Instr) (sch : List BoundaryAct), Begins c sch s → s.banks.state = .armed →
    s.banks.touchedPart = true →
    ∃ t, exec c s = .next t ∧
    let old := s.banks.active.part
    let new := s.banks.shadow.part
    (old.source = .free → new.source = .free → t.tf = { s.tf with state := .free }) ∧
    (old.source = .free → new.source = .follow →
      t.tf = { s.tf with state := .acquire, miss := 0, silent := 0, seen := false }) ∧
    (old.source = .follow → new.source = .free →
      t.tf = { s.tf with state := .free, miss := 0, silent := 0, seen := false }) ∧
    (old.source = .follow → new.source = .follow → old.timingPort ≠ new.timingPort →
      t.tf = { s.tf with state := .acquire, miss := 0, silent := 0, seen := false }) ∧
    (old.source = .follow → new.source = .follow → old.timingPort = new.timingPort →
      let lost := s.ports[old.timingPort].link = .up ∧ inPortList new.portEnable old.timingPort = false
      (s.tf.state = .locked → lost → SilentChecked { s.tf with state := .holdover } t.tf) ∧
      (¬ (s.tf.state = .locked ∧ lost) → SilentChecked s.tf t.tf)) ∧
    (t.tf.state ≠ s.tf.state → Announced s t (.timing, .timing t.tf.state))

/-- A boundary or a step counts the holder's lease; at 0 the claim ends with the cache cleared and CLAIM_EXPIRED naming the
old tag queued (R171). -/
def Obligations.BoundaryCountsTheLease : Prop :=
  ∀ (s : State) (c : Instr) (sch : List BoundaryAct), Begins c sch s → ∃ t, exec c s = .next t ∧
    (s.me.claim.holder = none → t.me.claim = s.me.claim ∧ t.me.cache = s.me.cache) ∧
    ∀ tag, s.me.claim.holder = some tag →
      (2 ≤ s.me.claim.lease →
        t.me.claim = { s.me.claim with lease := s.me.claim.lease - 1 } ∧ t.me.cache = s.me.cache) ∧
      (s.me.claim.lease = 1 → t.me.claim.holder = none ∧ t.me.cache = none ∧
        Announced s t (.claimExpired tag, .nothing))

/-- A boundary or a step makes the silent check: a period without a SYNC advances the silent counter, which at 8 ends a
lock with SYNC_MISSING; the seen mark is cleared; FREE makes no check (R141). With a swap it is stated where the Part
record is untouched and the timing port stays enabled or is not UP; for the other swaps see `SwapReevaluatesTiming`. -/
def Obligations.BoundaryMakesTheSilentCheck : Prop :=
  ∀ (s : State) (c : Instr) (sch : List BoundaryAct), Begins c sch s →
    (s.banks.state = .armed → s.banks.touchedPart = false ∧
      (inPortList s.banks.shadow.part.portEnable s.part.timingPort = true ∨ s.ports[s.part.timingPort].link ≠ .up)) →
    ∃ t, exec c s = .next t ∧ SilentChecked s.tf t.tf ∧
    (s.tf.state = .locked → 8 ≤ s.tf.checkedSilent.toNat → Announced s t (.timing, .timing .holdover))

/-- A boundary or a step appends on each port of sync_out that is enabled and UP one SYNC entry with the new period's
number, or counts SYNC_SKIP where CONTROL is full (R145); on the holder's port a notice may stand before or after it, and
take the last place (R183; the order: notes/assumptions/3.md). A port outside sync_out, disabled or not UP gets no SYNC and
counts no SYNC_SKIP: unless the swap drops it from UP (`SwapFollowsPortEnable`), nothing of it changes but its link by the
swap and, on the holder's port, one notice at the tail of CONTROL (R183), which an idle transmitter with CONTROL empty
starts (R100). All of it is judged by the Part record active after any swap. -/
def Obligations.BoundarySendsSyncs : Prop :=
  ∀ (s : State) (c : Instr) (sch : List BoundaryAct), Begins c sch s → ∃ t, exec c s = .next t ∧ ∀ p : Port,
    let r := s.nextPart
    let q := s.ports[p]
    let sync := ControlEntry.sync r.syncId t.pt.period
    let notified := s.me.claim.holder ≠ none ∧ s.me.claim.port = p
    let sends := inPortList r.syncOut p = true ∧ inPortList r.portEnable p = true ∧ q.link = .up
    (sends → ∃ l tx skip,
      t.ports[p] = { q with control := q.control ++ l, tx := tx, counters := { q.counters with syncSkip := skip } } ∧
      (q.tx ≠ .idle ∨ l = [] → tx = q.tx) ∧
      (q.tx = .idle → q.control = [] → ∀ x xs, l = x :: xs → tx = .sending .control (controlCell s x)) ∧
      (q.control.length < 4 → ¬ notified → l = [sync] ∧ skip = q.counters.syncSkip) ∧
      (q.control.length ≤ 2 → notified →
        (l = [sync] ∨ ∃ n, l = [sync, .notice n] ∨ l = [.notice n, sync]) ∧ skip = q.counters.syncSkip) ∧
      (q.control.length = 3 → notified → (l = [sync] ∧ skip = q.counters.syncSkip) ∨
        ((∃ n, l = [.notice n]) ∧ skip = satAdd q.counters.syncSkip 1)) ∧
      (4 ≤ q.control.length → l = [] ∧ skip = satAdd q.counters.syncSkip 1)) ∧
    (¬ sends → ¬ notified → inPortList s.part.portEnable p = inPortList r.portEnable p → t.ports[p] = q) ∧
    (¬ sends → (s.banks.state = .armed → ¬ SwapDrops s p) → ∃ l tx,
      t.ports[p] = { q with link := t.ports[p].link, control := q.control ++ l, tx := tx } ∧
      (l = [] ∨ (notified ∧ ∃ n, l = [.notice n])) ∧
      (q.tx ≠ .idle ∨ l = [] → tx = q.tx) ∧
      (q.tx = .idle → q.control = [] → ∀ x xs, l = x :: xs → tx = .sending .control (controlCell s x)))

/-- A boundary or a step queues its notices (`DueNotices`, each by R181, also into a full queue), advances the ages and
sends the first due notice to the holder: its copy on CONTROL with the overflow mark it clears, its age 0, the notice kept;
an idle transmitter with CONTROL empty starts the first entry appended (R100, R182, R183). With none due, without a holder,
with the lease ending there (R171), or with the holder's port disabled, not UP or full, the ages alone advance and no notice
leaves. COMMIT_APPLIED, LINK, CLAIM_EXPIRED and the TIMING of a swap are queued before the sending, that of the silent check
before or after it (R125, R147). Where a SYNC goes to the holder's port as well, either order, and the last place to either
(notes/assumptions/3.md). -/
def Obligations.BoundarySendsANotice : Prop :=
  ∀ (s : State) (c : Instr) (sch : List BoundaryAct), Begins c sch s →
    let r := s.nextPart
    let h := s.me.claim.port
    let q := s.ports[h]
    let syncs := inPortList r.syncOut h = true
    let ready := s.me.claim.holder ≠ none ∧ (∀ tag, ¬ LeaseEnds s tag) ∧ inPortList r.portEnable h = true ∧ q.link = .up
    ∃ t before after m m', exec c s = .next t ∧ BoundaryQueue s t before after m m' ∧
    let silent := fun p : Port => (s.banks.state = .armed → ¬ SwapDrops s p) →
      ∃ l, t.ports[p].control = s.ports[p].control ++ l ∧ ∀ n, ControlEntry.notice n ∉ l
    let withheld := m' = { m with notices := m.aged } ∧ ∀ p : Port, silent p
    (∀ p : Port, p ≠ h → silent p) ∧
    (ready → ∀ pre n post, m.aged = pre ++ n :: post → (∀ x ∈ pre, ¬ x.Due r.resend) → n.Due r.resend →
      let copy := ControlEntry.notice ⟨n, s.me.claim.noticeId, t.pt.period, m.overflow⟩
      let sync := ControlEntry.sync r.syncId t.pt.period
      let sent := fun l : List ControlEntry =>
        FirstDueSent r.resend pre n post m m' ∧ t.ports[h].control = q.control ++ l ∧
        (q.tx ≠ .idle → t.ports[h].tx = q.tx) ∧
        (q.tx = .idle → q.control = [] → ∀ x xs, l = x :: xs → t.ports[h].tx = .sending .control (controlCell s x))
      (¬ syncs → q.control.length ≤ 3 → sent [copy]) ∧
      (syncs → q.control.length ≤ 2 → sent [copy, sync] ∨ sent [sync, copy]) ∧
      (syncs → q.control.length = 3 → sent [copy] ∨ withheld)) ∧
    ((∀ n ∈ m.aged, ¬ n.Due r.resend) → withheld) ∧
    (¬ ready ∨ 4 ≤ q.control.length → withheld)

/-- Under the schedule's invariant no accumulator is OPEN when an ordinary boundary is due (R19). -/
def Obligations.NoWindowIsOpenAtABoundary : Prop :=
  ∀ s : State, ScheduleInv s → BoundaryDue s → ∀ g : GroupId, s.groups[g].state ≠ .opened

/-! ### Following an upstream period -/

/-- A SYNC taken in ACQUIRE: TF records it, becomes LOCKED with STEPS counted and TIMING queued, and asks PT for a step
(R134, R136). The step's forced closes can be taken one at a time, other events between them (R12, R34; what each does is
stated with the CLOSEs); a group that is not OPEN takes none (R41). With no other event between, and no commit armed, every
OPEN window is closed with CUT and the part steps: tick 0, the SYNC's number, a length of the base, both pending values
gone (R12, R41). The model's are: that the forced closes and the step may also be commands of their own
(notes/assumptions/14.md), that a second SYNC that asks for a step replaces the request of the first, and that a step whose
swap changes source or timing_port stops at its forced closes while a SYNC waits (R135; notes/assumptions/20.md). -/
def Obligations.AcquiringSyncSteps : Prop :=
  (∀ (s : State) (n : Half) (rest : List Half), s.tf.handed = n :: rest → s.tf.state = .acquire →
    ∃ t, (∀ sch, exec (.syncTaken .sync sch) s = .next t) ∧
      (s.pt.stepRequest = none → ∀ closes sch, closes ≠ .sync →
        exec (.syncTaken closes sch) s = exec (.syncTaken closes sch) t) ∧
      t = { s with
        pt := { s.pt with stepRequest := some n }, me := t.me
        tf := { s.tf with
          state := .locked, miss := 0, silent := 0, seen := true, lastOffset := some (offsetNow s)
          steps := satAdd s.tf.steps 1, handed := rest } } ∧
      NoticeQueued .timing (.timing .locked) s.me t.me) ∧
  (∀ (s : State) (g : GroupId) (l : List GroupId) (sch : List BoundaryAct), s.pt.stepRequest ≠ none →
    ∃ t, exec (.syncTaken (.only [g]) sch) s = .next t ∧ t.pt = s.pt ∧ t.tf = s.tf ∧
      exec (.syncTaken (.only (g :: l)) sch) s = exec (.syncTaken (.only l) sch) t ∧
      exec (.syncTaken (.all (g :: l)) sch) s = exec (.syncTaken (.all l) sch) t ∧
      exec (.syncTaken (.all []) sch) s = exec (.syncTaken (.all (List.finRange 64)) sch) s ∧
      (s.groups[g].state ≠ .opened → t = s)) ∧
  (∀ (s : State) (first : List GroupId) (sch : List BoundaryAct),
    s.pt.stepRequest ≠ none → MovesTiming s → s.tf.handed ≠ [] →
    exec (.syncTaken (.all first) sch) s = exec (.syncTaken (.only (first ++ List.finRange 64)) sch) s) ∧
  (∀ (s : State) (first : List GroupId) (sch : List BoundaryAct) (n : Half) (rest : List Half),
    s.tf.handed = n :: rest → s.pt.stepRequest = none → s.tf.state = .acquire → s.banks.state ≠ .armed →
    ∃ t, exec (.syncTaken (.all first) sch) s = .next t ∧
    t.pt.tick = 0 ∧ t.pt.period = n ∧ t.pt.pendingAdj = none ∧ t.pt.pendingNum = none ∧ t.pt.stepRequest = none ∧
    t.pt.len = (if 16 ≤ s.pt.phase + s.part.fraction then s.part.baseLen + 1 else s.part.baseLen) ∧
    t.tf = { s.tf with
      state := .locked, miss := 0, silent := 0, seen := false, lastOffset := some (offsetNow s)
      steps := satAdd s.tf.steps 1, handed := rest } ∧
    t.streams = s.streams ∧ t.banks = s.banks ∧ t.pending = s.pending ∧ t.me.requests = s.me.requests ∧
    t.me.slots = s.me.slots ∧
    ∀ g : GroupId,
      (s.groups[g].state = .opened →
        t.groups[g].state = (match s.banks.active.groups[g].mode with | .continuous => .idle | .oneShot => .spent) ∧
        t.groups[g].cut = true ∧ t.groups[g].counters.cut = satAdd s.groups[g].counters.cut 1 ∧
        t.groups[g].arrived = s.groups[g].arrived ∧ t.groups[g].holds = s.groups[g].holds) ∧
      (s.groups[g].state = .done → t.groups[g] = { s.groups[g] with state := .idle }) ∧
      (s.groups[g].state ≠ .opened → s.groups[g].state ≠ .done → t.groups[g] = s.groups[g]))

/-- A SYNC in tolerance in LOCKED or HOLDOVER asks for an adjustment by its offset and for the matching number, counts
a slip where its number is not the expected one, and restores LOCKED (R137, R138). It is the first of those handed over
(R134; notes/assumptions/7.md), taken also while a step is outstanding (notes/assumptions/20.md). -/
def Obligations.SyncInToleranceAdjusts : Prop :=
  ∀ (s : State) (closes : ForcedCloses) (sch : List BoundaryAct) (n : Half) (rest : List Half),
    s.tf.handed = n :: rest → (closes = .sync ∨ s.pt.stepRequest = none) →
    (s.tf.state = .locked ∨ s.tf.state = .holdover) →
    let d := offsetNow s
    d.natAbs ≤ s.part.tolerance →
    ∃ t, exec (.syncTaken closes sch) s = .next t ∧
    (0 ≤ d → t.pt = { s.pt with pendingAdj := some d, pendingNum := some (n + 1) }) ∧
    (d < 0 → t.pt = { s.pt with pendingAdj := some d, pendingNum := some n }) ∧
    (let expected := if 0 ≤ d then s.pt.period else s.pt.period + 1
     t.tf = { s.tf with
       state := .locked, miss := 0, silent := 0, seen := true, lastOffset := some d, handed := rest
       syncInTol := satAdd s.tf.syncInTol 1
       numberSlip := if n = expected then s.tf.numberSlip else satAdd s.tf.numberSlip 1 }) ∧
    (s.tf.state = .locked → t.me = s.me) ∧
    (s.tf.state = .holdover → NoticeQueued .timing (.timing .locked) s.me t.me) ∧
    t.groups = s.groups ∧ t.streams = s.streams ∧ t.pool = s.pool ∧ t.ports = s.ports ∧ t.banks = s.banks ∧
    t.pending = s.pending

/-- A SYNC out of tolerance asks PT for nothing: in LOCKED it counts a miss, and the third in a row gives up the lock;
in HOLDOVER one is enough (R139, R140). It is the first of those handed over (R134), taken also while a step is outstanding
(notes/assumptions/20.md). -/
def Obligations.SyncOutOfToleranceMisses : Prop :=
  ∀ (s : State) (closes : ForcedCloses) (sch : List BoundaryAct) (n : Half) (rest : List Half),
    s.tf.handed = n :: rest → (closes = .sync ∨ s.pt.stepRequest = none) →
    let d := offsetNow s
    s.part.tolerance < d.natAbs →
    let out := { s.tf with
      silent := 0, seen := true, lastOffset := some d, handed := rest
      syncOutTol := satAdd s.tf.syncOutTol 1 }
    (s.tf.state = .locked ∨ s.tf.state = .holdover) →
    ∃ t, exec (.syncTaken closes sch) s = .next t ∧
    t.pt = s.pt ∧ t.groups = s.groups ∧ t.streams = s.streams ∧ t.pool = s.pool ∧ t.ports = s.ports ∧
    t.banks = s.banks ∧ t.pending = s.pending ∧
    (s.tf.state = .locked → s.tf.miss.toNat ≤ 1 → t.tf = { out with miss := satAdd s.tf.miss 1 } ∧ t.me = s.me) ∧
    (s.tf.state = .locked → 2 ≤ s.tf.miss.toNat → t.tf = { out with state := .acquire, miss := 0 } ∧
      NoticeQueued .timing (.timing .acquire) s.me t.me) ∧
    (s.tf.state = .holdover → t.tf = { out with state := .acquire, miss := 0 } ∧
      NoticeQueued .timing (.timing .acquire) s.me t.me)

/-- CLAIM_EXPIRED with the lease at 0 ends the claim (R171), and SYNC_MISSING with the silent counter at 8 in LOCKED ends
the lock (R141). That these two effects are commands of their own beside the boundary that takes them is the model's
reading (notes/assumptions/6.md). -/
def Obligations.ExpiryAndSilenceEnd : Prop :=
  (∀ (s : State) (tag : Half), s.me.claim.holder = some tag → s.me.claim.lease = 0 →
    ∃ t m, exec .claimExpired s = .next t ∧ t = { s with me := t.me } ∧
      m = { s.me with claim := { s.me.claim with holder := none, lease := 0 }, cache := none } ∧
      NoticeQueued (.claimExpired tag) .nothing m t.me) ∧
  (∀ s : State, s.tf.state = .locked → 8 ≤ s.tf.silent.toNat →
    ∃ t, exec .syncMissing s = .next t ∧
      t = { s with
        tf := { s.tf with state := .holdover, syncMissing := satAdd s.tf.syncMissing 1 }, me := t.me } ∧
      NoticeQueued .timing (.timing .holdover) s.me t.me)

/-! ### The refresh -/

/-- REFRESH_COPY copies the next position (streams, then groups, then the Part record) from the active bank and clears
its mark; every other record and mark stays (R127). -/
def Obligations.RefreshCopiesThePosition : Prop :=
  ∀ s : State, s.banks.state = .refresh → s.banks.copyPos ≤ 1088 →
    ∃ t, exec .refreshCopy s = .next t ∧ t = { s with banks := t.banks } ∧
    t.banks.active = s.banks.active ∧ t.banks.state = .refresh ∧ t.banks.copyPos = s.banks.copyPos + 1 ∧
    t.banks.copyAge = s.banks.copyAge ∧
    (∀ i : StreamId,
      (i.val = s.banks.copyPos → t.banks.shadow.streams[i] = s.banks.active.streams[i] ∧
        t.banks.touchedStreams[i] = false) ∧
      (i.val ≠ s.banks.copyPos → t.banks.shadow.streams[i] = s.banks.shadow.streams[i] ∧
        t.banks.touchedStreams[i] = s.banks.touchedStreams[i])) ∧
    (∀ g : GroupId,
      (1024 + g.val = s.banks.copyPos → t.banks.shadow.groups[g] = s.banks.active.groups[g] ∧
        t.banks.touchedGroups[g] = false) ∧
      (1024 + g.val ≠ s.banks.copyPos → t.banks.shadow.groups[g] = s.banks.shadow.groups[g] ∧
        t.banks.touchedGroups[g] = s.banks.touchedGroups[g])) ∧
    (s.banks.copyPos = 1088 → t.banks.shadow.part = s.banks.active.part ∧ t.banks.touchedPart = false) ∧
    (s.banks.copyPos ≠ 1088 → t.banks.shadow.part = s.banks.shadow.part ∧ t.banks.touchedPart = s.banks.touchedPart)

/-- REFRESH_COMPLETE, after the Part record has been copied, ends the refresh; under the banks' invariant both banks then
hold the same records and no mark is set (R127). -/
def Obligations.RefreshCompletesWithEqualBanks : Prop :=
  ∀ s : State, s.banks.state = .refresh → s.banks.copyPos = 1089 →
    ∃ t, exec .refreshComplete s = .next t ∧ t = { s with banks := { s.banks with state := .idle } } ∧
    (BanksInv s → t.banks.shadow = t.banks.active ∧ (∀ i : StreamId, t.banks.touchedStreams[i] = false) ∧
      (∀ g : GroupId, t.banks.touchedGroups[g] = false) ∧ t.banks.touchedPart = false)

/-! ### Windows -/

/-- OPEN of an IDLE group whose open_tick is now empties the arrived set, sets the running result to the op's identity
and clears the marks; the rest of the group, and every other block, is left alone (R9, R17). -/
def Obligations.OpenStartsTheWindow : Prop :=
  ∀ (s : State) (g : GroupId), WindowDue s g s.banks.active.groups[g].openTick .idle →
    ∃ t, exec (.openWindow g) s = .next t ∧ t = { s with groups := t.groups } ∧
    (∀ h : GroupId, h ≠ g → t.groups[h] = s.groups[h]) ∧
    ∃ x, IsIdentity s.banks.active.groups[g] x ∧ t.groups[g] = { s.groups[g] with
      state := .opened, arrived := Vector.replicate 8 none, result := x, filled := false, cut := false }

/-- A close, ordinary or forced, with fewer arrivals than the quorum under SUPPRESS counts SHORT and SUPPRESSED, builds no
cell, queues GROUP_SHORT where the record asks for it, and ends in DONE or SPENT (R42, R47, R48, R54); a forced one sets
CUT and counts it (R41). A forced close as a command of its own is the model's reading (notes/assumptions/14.md). -/
def Obligations.ShortCloseSuppresses : Prop :=
  ∀ (s : State) (g : GroupId) (c : Instr) (forced : Bool), Closes c forced s g →
    let r := s.banks.active.groups[g]
    let a := s.groups[g].closing forced
    arrivals s.groups[g] < r.quorum → r.onShort = .suppress →
    ∃ t, exec c s = .next t ∧ t = { s with groups := t.groups, me := t.me } ∧
    (∀ h : GroupId, h ≠ g → t.groups[h] = s.groups[h]) ∧
    t.groups[g] = { a with
      state := (match r.mode with | .continuous => .done | .oneShot => .spent)
      counters := { a.counters with
        short := satAdd a.counters.short 1, suppressed := satAdd a.counters.suppressed 1 } } ∧
    (r.notifyShort = true → NoticeQueued (.groupShort g) .nothing s.me t.me) ∧
    (r.notifyShort = false → t.me = s.me)

/-- A close, ordinary or forced, that calls for a cell, with a free buffer and a port to take it: one buffer holds the
output cell with a count of one per port of the take set, each of those ports takes one entry, full ports count
EGRESS_DROP, and EMITTED and the emission count advance (R49 to R52, R54). A formed output has the samples of
`formOutput`, a muted one zeros and SHORT; a forced close sets CUT, and its cell carries the number of the period being
cut (R12, R41). A forced close as a command of its own is the model's reading (notes/assumptions/14.md). -/
def Obligations.CloseEmitsTheOutput : Prop :=
  ∀ (s : State) (g : GroupId) (c : Instr) (forced : Bool) (b : BufId) (n : Nat), Closes c forced s g →
    let r := s.banks.active.groups[g]
    let a := s.groups[g].closing forced
    (arrivals a < r.quorum → r.onShort = .mute) → takeBuffer s = some b →
    TakeCount r.dest (fun _ => False) s n → 0 < n →
    ∃ t, exec c s = .next t ∧
    t.pt = s.pt ∧ t.tf = s.tf ∧ t.streams = s.streams ∧ t.banks = s.banks ∧ t.pending = s.pending ∧
    (∀ h : GroupId, h ≠ g → t.groups[h] = s.groups[h]) ∧
    (∀ x : BufId, x ≠ b → t.pool[x] = s.pool[x]) ∧
    (∀ p : Port, PortTakes b r.dest (fun _ => False) s t p) ∧
    let ends : AccState := match r.mode with | .continuous => .done | .oneShot => .spent
    (r.quorum ≤ arrivals a →
      let fills := filledSlots r a ≠ []
      t.me = s.me ∧
      t.groups[g] = { a with
        state := ends, emission := a.emission + 1, filled := if fills then true else a.filled
        counters := { a.counters with
          emitted := satAdd a.counters.emitted 1, filled := if fills then satAdd a.counters.filled 1 else a.counters.filled } } ∧
      t.pool[b] = ⟨outputCell (outputFlags false a.cut (if fills then true else a.filled)) r.outStream a.emission
        r.sampleCount s.pt.period (formOutput r a), n⟩) ∧
    (arrivals a < r.quorum →
      (r.notifyShort = true → NoticeQueued (.groupShort g) .nothing s.me t.me) ∧
      (r.notifyShort = false → t.me = s.me) ∧
      t.groups[g] = { a with
        state := ends, emission := a.emission + 1
        counters := { a.counters with
          emitted := satAdd a.counters.emitted 1, short := satAdd a.counters.short 1 } } ∧
      t.pool[b] = ⟨outputCell (outputFlags true a.cut a.filled) r.outStream a.emission r.sampleCount s.pt.period
        (List.replicate r.sampleCount 0), n⟩)

/-- A close, ordinary or forced, formed or muted, that calls for a cell and finds no free buffer counts LOST, queues
GROUP_LOST and touches no port; with a buffer and no port to take the cell it counts NO_DEST, and the buffer is free again,
its old contents kept, which is the model's choice (notes/assumptions/24.md). Neither moves the emission count (R50, R52). A muted one counts SHORT, and its GROUP_SHORT, where the record asks for
it, is queued first (R47, R48). A forced close as a command of its own is the model's reading (notes/assumptions/14.md). -/
def Obligations.CloseLosesTheOutput : Prop :=
  ∀ (s : State) (g : GroupId) (c : Instr) (forced : Bool), Closes c forced s g →
    let r := s.banks.active.groups[g]
    let a := s.groups[g].closing forced
    let formed := r.quorum ≤ arrivals a
    (¬ formed → r.onShort = .mute) →
    let fills := formed ∧ filledSlots r a ≠ []
    let ends : AccState := match r.mode with | .continuous => .done | .oneShot => .spent
    let counted := { a.counters with
      filled := if fills then satAdd a.counters.filled 1 else a.counters.filled
      short := if formed then a.counters.short else satAdd a.counters.short 1 }
    let closed := { a with state := ends, filled := if fills then true else a.filled }
    let reported := fun m : Management => (¬ formed ∧ r.notifyShort = true → NoticeQueued (.groupShort g) .nothing s.me m) ∧
      (formed ∨ r.notifyShort = false → m = s.me)
    (takeBuffer s = none →
      ∃ t m, exec c s = .next t ∧ t = { s with groups := t.groups, me := t.me } ∧
      (∀ h : GroupId, h ≠ g → t.groups[h] = s.groups[h]) ∧
      t.groups[g] = { closed with counters := { counted with lost := satAdd counted.lost 1 } } ∧
      reported m ∧ NoticeQueued (.groupLost g) .nothing m t.me) ∧
    (∀ b, takeBuffer s = some b → TakeCount r.dest (fun _ => False) s 0 →
      ∃ t, exec c s = .next t ∧ t = { s with groups := t.groups, ports := t.ports, me := t.me } ∧
      (∀ h : GroupId, h ≠ g → t.groups[h] = s.groups[h]) ∧
      t.groups[g] = { closed with counters := { counted with noDest := satAdd counted.noDest 1 } } ∧
      reported t.me ∧ ∀ p : Port, PortTakes b r.dest (fun _ => False) s t p)

/-- The bytes of every cell the part builds: a combine output, a SYNC, a response, a notice, each with its header, its
payload, zeros where no field stands and a good check; and a renamed copy, which keeps every byte but the stream_id and
the check (R49, R87, R98, R166, R190 to R192, R196). -/
def Obligations.OutputCellLayout : Prop :=
  (∀ (flags : Byte) (id : StreamId) (sequence : Byte) (n : Nat) (period : Half) (v : Samples),
    v.length = n → n ≤ 16 → (∀ x ∈ v, -8388608 ≤ x ∧ x ≤ 8388607) →
    let c := outputCell flags id sequence n period v
    Originated c 1 flags id sequence n period ∧ cellSamples c n = v ∧
    (∀ i, 12 + 3 * n ≤ i → i ≤ 59 → cellByte c i = 0)) ∧
  (∀ (id : StreamId) (period : Half), let c := syncCell id period
    Originated c 2 0 id 0 0 period ∧ ∀ i, 12 ≤ i → i ≤ 59 → cellByte c i = 0) ∧
  (∀ x : Response, x.data.length ≤ 42 → let c := responseCell x
    Originated c 4 0 x.replyId 0 0 x.period ∧ cellHalf c 12 = x.controllerTag ∧ cellHalf c 14 = x.transactionTag ∧
    cellByte c 16 = x.code ∧
    (x.status, (cellByte c 17).toNat) ∈ [(Status.ok, 0), (.badRequest, 1), (.badField, 2), (.badIndex, 3), (.badSet, 4),
      (.notOwner, 5), (.claimed, 6), (.shadowArmed, 7), (.shadowBusy, 8), (.alreadyArmed, 9), (.notArmed, 10),
      (.checkFailed, 11)] ∧
    ∀ i, i < 42 → cellByte c (18 + i) = x.data.getD i 0) ∧
  (∀ x : NoticeCopy, x.notice.repeats ≤ 255 → let c := noticeCell x
    let names := fun (kind : Byte) (subject : Nat) => cellByte c 14 = kind ∧ (cellHalf c 16).toNat = subject
    Originated c 5 0 x.streamId 0 0 x.period ∧ cellHalf c 12 = x.notice.number ∧
    (cellByte c 15).toNat = x.notice.repeats ∧
    (match x.notice.topic with
      | .startedPowerOn => names 1 0
      | .startedSoft => names 1 1
      | .commitApplied => names 2 0
      | .claimExpired tag => names 3 tag.toNat
      | .timing => names 4 0
      | .poolEmpty => names 5 0
      | .groupLost g => names 6 g.val
      | .groupShort g => names 7 g.val
      | .link p => names 8 p.val) ∧
    (x.notice.payload, (cellByte c 18).toNat) ∈ [(NoticePayload.nothing, 0), (.timing .free, 0), (.timing .acquire, 1),
      (.timing .locked, 2), (.timing .holdover, 3), (.link false, 0), (.link true, 1)] ∧
    cellByte c 19 = (if x.overflow then 1 else 0) ∧ ∀ i, 20 ≤ i → i ≤ 59 → cellByte c i = 0) ∧
  (∀ (x : Cell) (id : StreamId), let c := renameCell x id
    (∀ i, i ≤ 59 → i ≠ 2 → i ≠ 3 → cellByte c i = cellByte x i) ∧ cellByte c 2 >>> 4 = cellByte x 2 >>> 4 ∧
    (cellStreamId c).toNat = id.val ∧ checkGood c = true)

/-- The running result does not depend on the order in which the contributions were accepted (R23, R24, R25). -/
def Obligations.RunningResultIgnoresOrder : Prop :=
  ∀ (r : GroupRec) (x : Running) (l m : List (Slot × Samples)), IsIdentity r x → l.Perm m → (l.map (·.1)).Nodup →
    l.foldl (fun y c => updateRunning r.op c.1 c.2 y) x = m.foldl (fun y c => updateRunning r.op c.1 c.2 y) x

/-- The samples of a formed output, where fill HOLD brings in the held samples of every missing slot below contributors
whose hold record is valid: a SUM is, position by position, the running sum plus those samples, saturated to the sample
range; a MAX or MIN their greatest or least with the running result, or zeros without a participant; a PRIORITY the
samples of the lowest slot that arrived or is filled, or zeros without one (R43 to R46). It has sample_count samples where
the running result and the held samples have, and each in the sample range where those are or the op is SUM. -/
def Obligations.FormedOutputValues : Prop :=
  ∀ (r : GroupRec) (a : Accum),
    let fillOf := fun (i : Slot) => if r.fill = .hold ∧ i.val < r.contributors ∧ a.arrived[i] = none then a.holds[i] else none
    let parts := fun (P : Samples → Prop) => (∀ w, a.result = .values w → P w) ∧
      (∀ i v, a.result = .lead (some (i, v)) → P v) ∧ ∀ i v, fillOf i = some v → P v
    let inRange := fun v : Samples => ∀ x ∈ v, -8388608 ≤ x ∧ x ≤ 8388607
    (parts (·.length = r.sampleCount) → (formOutput r a).length = r.sampleCount) ∧
    (r.op = .sum ∨ parts inRange → inRange (formOutput r a)) ∧
    (∀ w k, r.op = .sum → a.result = .values w → w.length = r.sampleCount → k < r.sampleCount →
      (∀ i v, fillOf i = some v → v.length = r.sampleCount) →
      (formOutput r a).getD k 0 = max (-8388608) (min 8388607
        (w.getD k 0 + (allSlots.map (fun i => ((fillOf i).getD []).getD k 0)).sum))) ∧
    (∀ w k, r.op = .max ∨ r.op = .min → a.result = .values w → w.length = r.sampleCount → k < r.sampleCount →
      (∀ i v, fillOf i = some v → v.length = r.sampleCount) →
      ((∃ i : Slot, a.arrived[i] ≠ none) ∨ ∃ i v, fillOf i = some v) →
      let y := (formOutput r a).getD k 0
      (y = w.getD k 0 ∨ ∃ i v, fillOf i = some v ∧ y = v.getD k 0) ∧
      (r.op = .max → w.getD k 0 ≤ y ∧ ∀ i v, fillOf i = some v → v.getD k 0 ≤ y) ∧
      (r.op = .min → y ≤ w.getD k 0 ∧ ∀ i v, fillOf i = some v → y ≤ v.getD k 0)) ∧
    ((∀ i : Slot, a.arrived[i] = none) → (∀ i, fillOf i = none) → r.op = .max ∨ r.op = .min →
      formOutput r a = List.replicate r.sampleCount 0) ∧
    (∀ i v, r.op = .priority → a.result = .lead (some (i, v)) →
      ((∀ j : Slot, j < i → fillOf j = none) → formOutput r a = v) ∧
      (∀ j u, j < i → fillOf j = some u → (∀ k : Slot, k < j → fillOf k = none) → formOutput r a = u)) ∧
    (r.op = .priority → a.result = .lead none →
      ((∀ i, fillOf i = none) → formOutput r a = List.replicate r.sampleCount 0) ∧
      (∀ j u, fillOf j = some u → (∀ k : Slot, k < j → fillOf k = none) → formOutput r a = u))

/-! ### Contributions -/

/-- A DATA cell accepted at lookup for a stream whose action is CONTRIBUTE or BOTH, of the group's sample_count, received in
the window for a slot that has not arrived, is accepted by the group: the slot joins the arrived set with the tick, its
shifted samples are its hold record and enter the running result. Under CONTRIBUTE nothing else changes but RX_CELLS, the
error run and the stream's acceptance; under BOTH the forwarding part is added, as `CellsAreForwarded` and
`ForwardingLosses` state it (R22, R26, R29, R30, R73). -/
def Obligations.ContributionIsAccepted : Prop :=
  ∀ (s : State) (p : Port) (c : Cell) (o : LossOrder) (i : StreamId) (f : Feed),
    Accepted s p c i → s.banks.active.streams[i].feeds f → cellByte c 0 = 1 →
    let n := cellSampleCount c
    let r := s.banks.active.groups[f.group]
    let a := s.groups[f.group]
    a.state = .opened → n = r.sampleCount → a.arrived[f.slot] = none →
    let v := (cellSamples c n).map (fun x => x / 2 ^ f.shift.val)
    let k := acceptedStream s c i
    ∃ t, exec (.cellReceived p c o) s = .next t ∧
    t = { s with groups := t.groups, streams := t.streams, ports := t.ports, pool := t.pool, me := t.me } ∧
    (∀ h : GroupId, h ≠ f.group → t.groups[h] = s.groups[h]) ∧
    t.groups[f.group] = { a with
      arrived := a.arrived.set f.slot.val (some s.pt.tick) f.slot.isLt
      holds := a.holds.set f.slot.val (some v) f.slot.isLt
      result := t.groups[f.group].result } ∧
    (∀ w, r.op = .sum → a.result = .values w → t.groups[f.group].result = .values (List.zipWith (· + ·) w v)) ∧
    (∀ w, r.op = .max → a.result = .values w → t.groups[f.group].result = .values (List.zipWith max w v)) ∧
    (∀ w, r.op = .min → a.result = .values w → t.groups[f.group].result = .values (List.zipWith min w v)) ∧
    (a.result = .lead none → t.groups[f.group].result = .lead (some (f.slot, v))) ∧
    (∀ j w, a.result = .lead (some (j, w)) →
      t.groups[f.group].result = if f.slot < j then .lead (some (f.slot, v)) else .lead (some (j, w))) ∧
    (∀ j : StreamId, j ≠ i → t.streams[j] = s.streams[j]) ∧
    t.streams[i] = { k with counters := { k.counters with
      noDest := t.streams[i].counters.noDest, poolDrop := t.streams[i].counters.poolDrop } } ∧
    (s.banks.active.streams[i].action = .contribute f →
      t.streams[i] = k ∧ t.ports = receivedOn s p ∧ t.pool = s.pool ∧ t.me = s.me)

/-- A contribution that is not accepted changes no accumulator and counts one outcome: KIND where the cell is not DATA
(R73), else the first row of R29 that applies: GROUP_OFF, EARLY, LATE, SIZE or DUPLICATE. Under CONTRIBUTE nothing else
changes but RX_CELLS, the error run and the stream's acceptance; under BOTH the forwarding part is added, as
`CellsAreForwarded` and `ForwardingLosses` state it. -/
def Obligations.ContributionIsDiscarded : Prop :=
  ∀ (s : State) (p : Port) (c : Cell) (o : LossOrder) (i : StreamId) (f : Feed),
    Accepted s p c i → s.banks.active.streams[i].feeds f →
    let a := s.groups[f.group]
    let data := cellByte c 0 = 1
    let size := cellSampleCount c ≠ s.banks.active.groups[f.group].sampleCount
    (data → a.state = .opened → size ∨ a.arrived[f.slot] ≠ none) →
    ∃ t, exec (.cellReceived p c o) s = .next t ∧
    t = { s with streams := t.streams, ports := t.ports, pool := t.pool, me := t.me } ∧
    (∀ j : StreamId, j ≠ i → t.streams[j] = s.streams[j]) ∧ t.streams[i].lastSeq = (acceptedStream s c i).lastSeq ∧
    let before := (acceptedStream s c i).counters
    let after := { t.streams[i].counters with noDest := before.noDest, poolDrop := before.poolDrop }
    (¬ data → after = { before with kind := satAdd before.kind 1 }) ∧
    (data → a.state = .off → after = { before with groupOff := satAdd before.groupOff 1 }) ∧
    (data → a.state = .idle → after = { before with early := satAdd before.early 1 }) ∧
    (data → a.state = .done ∨ a.state = .spent → after = { before with late := satAdd before.late 1 }) ∧
    (data → a.state = .opened → size → after = { before with size := satAdd before.size 1 }) ∧
    (data → a.state = .opened → ¬ size → after = { before with duplicate := satAdd before.duplicate 1 }) ∧
    (s.banks.active.streams[i].action = .contribute f →
      after = t.streams[i].counters ∧ t.ports = receivedOn s p ∧ t.pool = s.pool ∧ t.me = s.me)

/-! ### Cells received -/

/-- A cell whose check fails counts RX_CHECK and raises the error run, and nothing else below eight in a row; the eighth
takes the link from UP to TRAINING with the flush of its queues, LINK down queued, and TF told when it is the timing port
(R142, R153, R154, R156). -/
def Obligations.FailedCheckCounts : Prop :=
  ∀ (s : State) (p : Port) (c : Cell) (o : LossOrder), s.ports[p].link = .up → checkGood c = false →
    let counted := { s.ports[p] with errorRun := s.ports[p].errorRun + 1, counters :=
      { s.ports[p].counters with rxCheck := satAdd s.ports[p].counters.rxCheck 1 } }
    ∃ t, exec (.cellReceived p c o) s = .next t ∧ (∀ q : Port, q ≠ p → t.ports[q] = s.ports[q]) ∧
    (s.ports[p].errorRun < 7 → t = { s with ports := t.ports } ∧ t.ports[p] = counted) ∧
    (7 ≤ s.ports[p].errorRun →
      PortDropped .training counted t.ports[p] ∧ EntriesReturned s.ports[p] s t ∧
      t.pt = s.pt ∧ t.groups = s.groups ∧ t.streams = s.streams ∧ t.banks = s.banks ∧ t.pending = s.pending ∧
      LossTold p o s t)

/-- What a good cell can meet before lookup: a malformed header is discarded with RX_FORMAT; a SYNC on the timing port
under FOLLOW is handed to TF, behind those it has still to take by the model's list (notes/assumptions/7.md,
notes/assumptions/20.md); a request for this part is queued, dropped by a full queue, or denied by its port. Nothing
else changes (R63 to R66). A cell on a port that is not UP changes nothing (R157). -/
def Obligations.CellsBeforeLookup : Prop :=
  ∀ (s : State) (p : Port) (c : Cell) (o : LossOrder),
    let passed := { s.ports[p] with errorRun := 0, counters :=
      { s.ports[p].counters with rxCells := satAdd s.ports[p].counters.rxCells 1 } }
    let counted := fun k : PortCounters => Host.Outcome.next { s with
      ports := s.ports.set p.val { passed with counters := k } p.isLt }
    let kind := (cellByte c 0).toNat
    let id := (cellStreamId c).toNat
    let headerBad := kind = 0 ∨ 6 ≤ kind ∨ 1024 ≤ id ∨ (kind = 1 ∧ (cellSampleCount c = 0 ∨ 16 < cellSampleCount c))
    (s.ports[p].link ≠ .up → exec (.cellReceived p c o) s = .next s) ∧
    (s.ports[p].link = .up → checkGood c = true →
      (headerBad → exec (.cellReceived p c o) s =
        counted { passed.counters with rxFormat := satAdd passed.counters.rxFormat 1 }) ∧
      (kind = 2 → id < 1024 → s.part.source = .follow → s.part.timingPort = p →
        exec (.cellReceived p c o) s = .next { s with
          ports := receivedOn s p, tf := { s.tf with handed := s.tf.handed ++ [cellPeriod c] } }) ∧
      (kind = 3 → id = s.part.mgmtId.val →
        (inPortList s.part.mgmtPorts p = true → s.me.requests.length < 4 →
          exec (.cellReceived p c o) s = .next { s with
            ports := receivedOn s p, me := { s.me with requests := s.me.requests ++ [⟨c, p⟩] } }) ∧
        (inPortList s.part.mgmtPorts p = true → 4 ≤ s.me.requests.length → exec (.cellReceived p c o) s =
          counted { passed.counters with mgmtDrop := satAdd passed.counters.mgmtDrop 1 }) ∧
        (inPortList s.part.mgmtPorts p = false → exec (.cellReceived p c o) s =
          counted { passed.counters with mgmtDenied := satAdd passed.counters.mgmtDenied 1 })))

/-- A good cell looked up, of whatever kind: action DROP discards it with DROPPED; a guard for another port with GUARD; a
DATA cell under seq_check with the last accepted sequence once more, with REPEAT. None of the three leaves any other trace
(R68, R69, R70). -/
def Obligations.CellsRefusedAtLookup : Prop :=
  ∀ (s : State) (p : Port) (c : Cell) (o : LossOrder) (i : StreamId), LookedUp s p c i →
    let r := s.banks.active.streams[i]
    let k := s.streams[i].counters
    let after := fun k' : StreamCounters => { s with
      ports := receivedOn s p, streams := s.streams.set i.val { s.streams[i] with counters := k' } i.isLt }
    (r.action = .drop → exec (.cellReceived p c o) s = .next (after { k with dropped := satAdd k.dropped 1 })) ∧
    (r.action ≠ .drop → ∀ g, r.guard = some g → g ≠ p →
      exec (.cellReceived p c o) s = .next (after { k with guard := satAdd k.guard 1 })) ∧
    (r.action ≠ .drop → (r.guard = none ∨ r.guard = some p) → cellByte c 0 = 1 → r.seqCheck = true →
      s.streams[i].lastSeq = some (cellByte c 4) →
      exec (.cellReceived p c o) s = .next (after { k with repeated := satAdd k.repeated 1 }))

/-- A cell of whatever kind accepted at lookup, whose stream's action is FORWARD or BOTH, with a destination that can take
it and a free buffer: one buffer holds the cell, renamed where the record says so, with a count of one per port of the take
set; each of those takes one entry and full ones count EGRESS_DROP. Under FORWARD the stream's acceptance (a DATA cell's
sequence recorded with its GAP) is all else; under BOTH the contribution part is added, as `ContributionIsAccepted` and
`ContributionIsDiscarded` state it (R70, R73, R74, R79, R81 to R88). -/
def Obligations.CellsAreForwarded : Prop :=
  ∀ (s : State) (p : Port) (c : Cell) (o : LossOrder) (i : StreamId) (d : Dest) (b : BufId) (n : Nat),
    let r := s.banks.active.streams[i]
    let k := acceptedStream s c i
    let echoed := fun q : Port => r.echo = .suppress ∧ q = p
    Accepted s p c i → r.forwardsTo d → takeBuffer s = some b → TakeCount d echoed s n → 0 < n →
    ∃ t, exec (.cellReceived p c o) s = .next t ∧
    t = { s with groups := t.groups, streams := t.streams, ports := t.ports, pool := t.pool } ∧
    (∀ x : BufId, x ≠ b → t.pool[x] = s.pool[x]) ∧
    t.pool[b] = ⟨match r.rename with | none => c | some id => renameCell c id, n⟩ ∧
    (∀ q : Port, PortTakes b d echoed { s with ports := receivedOn s p } t q) ∧
    (∀ j : StreamId, j ≠ i → t.streams[j] = s.streams[j]) ∧ t.streams[i].lastSeq = k.lastSeq ∧
    t.streams[i].counters.noDest = k.counters.noDest ∧ t.streams[i].counters.poolDrop = k.counters.poolDrop ∧
    (r.action = .forward d → t.streams[i] = k ∧ t.groups = s.groups)

/-- The forwarding part of a cell accepted at lookup, of whatever kind, without a port to take it counts NO_DEST; with one
and no free buffer it counts POOL_DROP and queues POOL_EMPTY. No entry is appended; full members count EGRESS_DROP (R84,
R85, R86). Under FORWARD the stream's acceptance is all else; under BOTH the contribution part is added, as
`ContributionIsAccepted` and `ContributionIsDiscarded` state it. -/
def Obligations.ForwardingLosses : Prop :=
  ∀ (s : State) (p : Port) (c : Cell) (o : LossOrder) (i : StreamId) (d : Dest) (n : Nat),
    let r := s.banks.active.streams[i]
    let k := acceptedStream s c i
    let echoed := fun q : Port => r.echo = .suppress ∧ q = p
    Accepted s p c i → r.forwardsTo d → TakeCount d echoed s n → (0 < n → takeBuffer s = none) →
    let mid := receivedOn s p
    ∃ t, exec (.cellReceived p c o) s = .next t ∧
    t = { s with groups := t.groups, streams := t.streams, ports := t.ports, me := t.me } ∧
    (∀ j : StreamId, j ≠ i → t.streams[j] = s.streams[j]) ∧
    (∀ q : Port, (Standing s d q ∧ ¬ echoed q ∧ 64 ≤ s.ports[q].data.length →
        t.ports[q] = { mid[q] with counters :=
          { mid[q].counters with egressDrop := satAdd mid[q].counters.egressDrop 1 } }) ∧
      (¬ (Standing s d q ∧ ¬ echoed q ∧ 64 ≤ s.ports[q].data.length) → t.ports[q] = mid[q])) ∧
    let after := t.streams[i].counters
    let lost := if n = 0 then { k.counters with noDest := satAdd k.counters.noDest 1 }
      else { k.counters with poolDrop := satAdd k.counters.poolDrop 1 }
    (n = 0 → t.me = s.me) ∧ (0 < n → NoticeQueued .poolEmpty .nothing s.me t.me) ∧
    t.streams[i].lastSeq = k.lastSeq ∧ after.noDest = lost.noDest ∧ after.poolDrop = lost.poolDrop ∧
    (r.action = .forward d → after = lost ∧ t.groups = s.groups)

/-! ### Links and transmissions -/

/-- SIGNAL_DETECTED sets the signal mark and takes an enabled DOWN port to TRAINING; SIGNAL_LOST clears it and takes the
port to DOWN, from UP with the flush of its queues, LINK down and TF told when it is the timing port (R142, R151,
R153). -/
def Obligations.SignalReports : Prop :=
  ∀ (s : State) (p : Port) (o : LossOrder),
    (exec (.signalDetected p) s = .next { s with ports := s.ports.set p.val { s.ports[p] with
      signal := true
      link := if s.ports[p].link = .down ∧ inPortList s.part.portEnable p = true then .training else s.ports[p].link } p.isLt }) ∧
    (s.ports[p].link ≠ .up → exec (.signalLost p o) s = .next { s with
      ports := s.ports.set p.val { s.ports[p] with signal := false, link := .down } p.isLt }) ∧
    (s.ports[p].link = .up → ∃ t, exec (.signalLost p o) s = .next t ∧
      (∀ q : Port, q ≠ p → t.ports[q] = s.ports[q]) ∧
      PortDropped .down { s.ports[p] with signal := false } t.ports[p] ∧ EntriesReturned s.ports[p] s t ∧
      t.pt = s.pt ∧ t.groups = s.groups ∧ t.streams = s.streams ∧ t.banks = s.banks ∧ t.pending = s.pending ∧
      LossTold p o s t)

/-- ALIGNED takes a TRAINING port to UP with LINK up queued, and changes nothing in DOWN or UP; UNALIGNED takes an UP
port to TRAINING as every departure from UP, and changes nothing in DOWN or TRAINING (R142, R152, R153, R154). -/
def Obligations.AlignmentReports : Prop :=
  ∀ (s : State) (p : Port) (o : LossOrder),
    (s.ports[p].link ≠ .training → exec (.aligned p) s = .next s) ∧
    (s.ports[p].link = .training → ∃ t, exec (.aligned p) s = .next t ∧
      t = { s with ports := s.ports.set p.val { s.ports[p] with link := .up, errorRun := 0 } p.isLt, me := t.me } ∧
      NoticeQueued (.link p) (.link true) s.me t.me) ∧
    (s.ports[p].link ≠ .up → exec (.unaligned p o) s = .next s) ∧
    (s.ports[p].link = .up → ∃ t, exec (.unaligned p o) s = .next t ∧
      (∀ q : Port, q ≠ p → t.ports[q] = s.ports[q]) ∧
      PortDropped .training s.ports[p] t.ports[p] ∧ EntriesReturned s.ports[p] s t ∧
      t.pt = s.pt ∧ t.groups = s.groups ∧ t.streams = s.streams ∧ t.banks = s.banks ∧ t.pending = s.pending ∧
      LossTold p o s t)

/-- TX_COMPLETE removes the entry sent from the head of its queue, counts TX_CELLS, returns the buffer's reference or
the response slot, and starts the next entry, CONTROL before DATA (R94, R100, R102, R103). -/
def Obligations.TransmissionCompletes : Prop :=
  ∀ (s : State) (p : Port) (c : Cell), s.ports[p].link = .up →
    let counted := { s.ports[p].counters with txCells := satAdd s.ports[p].counters.txCells 1 }
    (∀ b rest, s.ports[p].tx = .sending .data c → s.ports[p].data = b :: rest →
      ∃ t tx, exec (.txComplete p) s = .next t ∧ t = { s with ports := t.ports, pool := t.pool } ∧
      (∀ q : Port, q ≠ p → t.ports[q] = s.ports[q]) ∧
      t.ports[p] = { s.ports[p] with data := rest, counters := counted, tx := tx } ∧
      (∀ x : BufId, x ≠ b → t.pool[x] = s.pool[x]) ∧ t.pool[b] = { s.pool[b] with refs := s.pool[b].refs - 1 } ∧
      (∀ e es, s.ports[p].control = e :: es → tx = .sending .control (controlCell s e)) ∧
      (∀ x xs, s.ports[p].control = [] → rest = x :: xs → tx = .sending .data s.pool[x].cell) ∧
      (s.ports[p].control = [] → rest = [] → tx = .idle)) ∧
    (∀ e rest, s.ports[p].tx = .sending .control c → s.ports[p].control = e :: rest →
      ∃ t tx, exec (.txComplete p) s = .next t ∧ t = { s with ports := t.ports, me := t.me } ∧
      (∀ q : Port, q ≠ p → t.ports[q] = s.ports[q]) ∧
      t.ports[p] = { s.ports[p] with control := rest, counters := counted, tx := tx } ∧
      (∀ r, e = .response r → t.me = { s.me with slots := s.me.slots.set r.val none r.isLt }) ∧
      ((∀ r, e ≠ .response r) → t.me = s.me) ∧
      (∀ x xs, rest = x :: xs → tx = .sending .control (controlCell t x)) ∧
      (∀ b bs, rest = [] → s.ports[p].data = b :: bs → tx = .sending .data s.pool[b].cell) ∧
      (rest = [] → s.ports[p].data = [] → tx = .idle))

/-- When a block queues a notice, ME takes it at once: a notice of the same kind and subject is replaced at the tail
with its repeat count one higher, a full queue drops the notice and sets the overflow mark, and otherwise it is appended
with the next number (R181). -/
def Obligations.NoticesAreQueued : Prop :=
  ∀ (t : Topic) (pl : NoticePayload) (s : State),
    NoticeQueued t pl s.me (queueNotice t pl s).me ∧ queueNotice t pl s = { s with me := (queueNotice t pl s).me }

/-! ### Requests -/

/-- The ten requests open to every controller beside CLAIM are answered without any effect beyond the renewal of the
holder's claim, the response and the cache (R165, R166, R173, R175, R176). -/
def Obligations.ReadsChangeNothing : Prop :=
  ∀ (s : State) (q : Request) (rest : List Request) (r : RespId) (c : Instr × RequestName),
    c ∈ [(Instr.identify, RequestName.identify), (.readStatus, .readStatus), (.readStream, .readStream),
      (.readGroup, .readGroup), (.readPart, .readPart), (.readGroupState, .readGroupState),
      (.readPortCounters, .readPortCounters), (.readStreamCounters, .readStreamCounters),
      (.readGroupCounters, .readGroupCounters), (.readTiming, .readTiming)] →
    Takes s (some c.2) q rest r → Passes s q →
    ∃ t st data, exec c.1 s = .next t ∧ Answered q rest r st data s t

/-- The responses of IDENTIFY, READ_STATUS, READ_TIMING and READ_GROUP_STATE, byte position by byte position of the
response cell, the states by their codes, and 0 in every data byte that no position names; READ_GROUP_STATE of a group
number 64 to 255 is answered BAD_INDEX without data (R175, R176, R148, R192, R194). -/
def Obligations.ReportsOfState : Prop :=
  ∀ (s : State) (q : Request) (rest : List Request) (r : RespId), Passes s q → Deliverable s q →
    let cellOf := fun (t : State) (c : Cell) => ∃ x, t.me.slots[r] = some x ∧ x.status = .ok ∧ c = responseCell x
    let zeros := fun (c : Cell) (first : Nat) => ∀ i, first ≤ i → i ≤ 59 → cellByte c i = 0
    let timingCodes := [(TimingState.free, 0), (.acquire, 1), (.locked, 2), (.holdover, 3)]
    (Takes s (some .identify) q rest r → ∃ t c, exec .identify s = .next t ∧ cellOf t c ∧
      (cellHalf c 18).toNat = 2117 ∧ (cellHalf c 20).toNat = 6408 ∧ cellByte c 22 = 1 ∧ cellByte c 23 = 8 ∧
      (cellHalf c 24).toNat = 1024 ∧ cellByte c 26 = 64 ∧ (cellHalf c 27).toNat = 384 ∧
      (cellHalf c 29).toNat = s.part.mgmtId.val ∧ zeros c 31) ∧
    (Takes s (some .readStatus) q rest r → ∃ t c, exec .readStatus s = .next t ∧ cellOf t c ∧
      (s.banks.state, (cellByte c 18).toNat) ∈ [(BankState.idle, 0), (.armed, 1), (.refresh, 2)] ∧
      (s.tf.state, (cellByte c 19).toNat) ∈ timingCodes ∧
      cellHalf c 20 = BitVec.ofNat 16 s.pt.tick ∧ cellHalf c 22 = s.pt.period ∧
      (cellHalf c 24).toNat = (s.pool.toList.filter (fun b => b.refs == 0)).length ∧
      (∀ tag, s.me.claim.holder = some tag → cellByte c 26 = 1 ∧ cellHalf c 27 = tag ∧
        cellHalf c 29 = BitVec.ofNat 16 (renewed s q).lease) ∧
      (s.me.claim.holder = none → cellByte c 26 = 0 ∧ cellHalf c 27 = 0 ∧ cellHalf c 29 = 0) ∧
      cellByte c 31 = BitVec.ofNat 8 s.me.notices.length ∧ cellByte c 32 = (if s.me.overflow then 1 else 0) ∧
      zeros c 33) ∧
    (Takes s (some .readTiming) q rest r → ∃ t c, exec .readTiming s = .next t ∧ cellOf t c ∧
      (s.tf.state, (cellByte c 18).toNat) ∈ timingCodes ∧
      (∀ d, s.tf.lastOffset = some d → cellByte c 19 = 1 ∧ cellHalf c 20 = BitVec.ofInt 16 d) ∧
      (s.tf.lastOffset = none → cellByte c 19 = 0 ∧ cellHalf c 20 = 0) ∧
      cellWord c 22 = s.tf.miss ∧ cellWord c 26 = s.tf.silent ∧ cellWord c 30 = s.tf.syncInTol ∧
      cellWord c 34 = s.tf.syncOutTol ∧ cellWord c 38 = s.tf.syncMissing ∧ cellWord c 42 = s.tf.steps ∧
      cellWord c 46 = s.tf.numberSlip ∧ zeros c 50) ∧
    (Takes s (some .readGroupState) q rest r → 64 ≤ argByte q 20 → ∃ t x, exec .readGroupState s = .next t ∧
      t.me.slots[r] = some x ∧ x.status = .badIndex ∧ x.data = []) ∧
    (∀ g : GroupId, Takes s (some .readGroupState) q rest r → argByte q 20 = g.val →
      ∃ t c, exec .readGroupState s = .next t ∧ cellOf t c ∧
      (s.groups[g].state, (cellByte c 18).toNat) ∈
        [(AccState.off, 0), (.idle, 1), (.opened, 2), (.done, 3), (.spent, 4)] ∧
      (∀ i : Slot, (cellByte c 19).getLsbD i.val = s.groups[g].arrived[i].isSome ∧
        (cellByte c 20).getLsbD i.val = s.groups[g].holds[i].isSome ∧
        cellHalf c (22 + 2 * i.val) = BitVec.ofNat 16 (s.groups[g].arrived[i].getD 0)) ∧
      cellByte c 21 = s.groups[g].emission ∧ zeros c 38)

/-- The responses of the three counter reads, byte position by byte position of the response cell, the link state by its
code, and 0 in every data byte that no position names (R57, R158, R192, R194, R195), and the refusals of an unknown block, then of an index out of range (R179, R192). -/
def Obligations.ReportsOfCounters : Prop :=
  ∀ (s : State) (q : Request) (rest : List Request) (r : RespId), Passes s q → Deliverable s q →
    let cellOf := fun (t : State) (c : Cell) => ∃ x, t.me.slots[r] = some x ∧ x.status = .ok ∧ c = responseCell x
    let zeros := fun (c : Cell) (first : Nat) => ∀ i, first ≤ i → i ≤ 59 → cellByte c i = 0
    let refused := fun (i : Instr) (st : Status) => ∃ t x, exec i s = .next t ∧ t.me.slots[r] = some x ∧
      x.status = st ∧ x.data = []
    (Takes s (some .readGroupCounters) q rest r →
      (64 ≤ argByte q 20 → refused .readGroupCounters .badIndex) ∧
      ∀ g : GroupId, argByte q 20 = g.val → ∃ t c, exec .readGroupCounters s = .next t ∧ cellOf t c ∧
        let k := s.groups[g].counters
        cellWord c 18 = k.emitted ∧ cellWord c 22 = k.short ∧ cellWord c 26 = k.suppressed ∧ cellWord c 30 = k.lost ∧
        cellWord c 34 = k.cut ∧ cellWord c 38 = k.filled ∧ cellWord c 42 = k.noDest ∧ zeros c 46) ∧
    (Takes s (some .readPortCounters) q rest r →
      (2 ≤ argByte q 21 → refused .readPortCounters .badField) ∧
      (argByte q 21 ≤ 1 → 8 ≤ argByte q 20 → refused .readPortCounters .badIndex) ∧
      ∀ p : Port, argByte q 20 = p.val → argByte q 21 ≤ 1 →
        ∃ t c, exec .readPortCounters s = .next t ∧ cellOf t c ∧
        let k := s.ports[p].counters
        (s.ports[p].link, (cellByte c 18).toNat) ∈ [(Link.down, 0), (.training, 1), (.up, 2)] ∧
        cellByte c 19 = (if s.ports[p].signal then 1 else 0) ∧
        (argByte q 21 = 0 → cellWord c 20 = k.rxCells ∧ cellWord c 24 = k.rxCheck ∧ cellWord c 28 = k.rxFormat ∧
          cellWord c 32 = k.mgmtDenied ∧ cellWord c 36 = k.mgmtDrop ∧ zeros c 40) ∧
        (argByte q 21 = 1 → cellByte c 20 = BitVec.ofNat 8 s.ports[p].control.length ∧
          cellByte c 21 = BitVec.ofNat 8 s.ports[p].data.length ∧ cellWord c 22 = k.txCells ∧
          cellWord c 26 = k.egressDrop ∧ cellWord c 30 = k.egressFlush ∧ cellWord c 34 = k.syncSkip ∧
          cellWord c 38 = k.rspDrop ∧ cellWord c 42 = k.linkDowns ∧ zeros c 46)) ∧
    (Takes s (some .readStreamCounters) q rest r →
      (2 ≤ argByte q 22 → refused .readStreamCounters .badField) ∧
      (argByte q 22 ≤ 1 → 1024 ≤ argHalf q 20 → refused .readStreamCounters .badIndex) ∧
      ∀ i : StreamId, argHalf q 20 = i.val → argByte q 22 ≤ 1 →
        ∃ t c, exec .readStreamCounters s = .next t ∧ cellOf t c ∧
        let k := s.streams[i].counters
        (∀ n, s.streams[i].lastSeq = some n → cellByte c 18 = 1 ∧ cellByte c 19 = n) ∧
        (s.streams[i].lastSeq = none → cellByte c 18 = 0 ∧ cellByte c 19 = 0) ∧
        (argByte q 22 = 0 → cellWord c 20 = k.accepted ∧ cellWord c 24 = k.dropped ∧ cellWord c 28 = k.guard ∧
          cellWord c 32 = k.repeated ∧ cellWord c 36 = k.gap ∧ cellWord c 40 = k.kind ∧ cellWord c 44 = k.noDest ∧
          cellWord c 48 = k.poolDrop ∧ zeros c 52) ∧
        (argByte q 22 = 1 → cellWord c 20 = k.early ∧ cellWord c 24 = k.late ∧ cellWord c 28 = k.duplicate ∧
          cellWord c 32 = k.size ∧ cellWord c 36 = k.groupOff ∧ zeros c 40))

/-- READ_STREAM, READ_GROUP and READ_PART report the named records of the named bank, each with its touched mark in the
shadow alone; they refuse a bank or count out of range, then an index out of range (R129, R179, R193). -/
def Obligations.ReportsOfRecords : Prop :=
  ∀ (s : State) (q : Request) (rest : List Request) (r : RespId), Passes s q → Deliverable s q →
    let bank := argByte q 20
    let records := if bank = 0 then s.banks.active else s.banks.shadow
    let answers := fun (i : Instr) (st : Status) (data : List Byte → Prop) =>
      ∃ t x, exec i s = .next t ∧ t.me.slots[r] = some x ∧ x.status = st ∧ data x.data
    (Takes s (some .readStream) q rest r →
      let first := argHalf q 22
      let count := argByte q 21
      (2 ≤ bank ∨ count = 0 ∨ 5 ≤ count → answers .readStream .badField (· = [])) ∧
      (bank ≤ 1 → 1 ≤ count → count ≤ 4 → 1024 < first + count → answers .readStream .badIndex (· = [])) ∧
      (bank ≤ 1 → 1 ≤ count → count ≤ 4 → first + count ≤ 1024 → answers .readStream .ok (fun data =>
        data.length = 10 * count ∧ ∀ (k : Nat) (i : StreamId), k < count → i.val = first + k →
          (data.drop (10 * k)).take 10 = encodeStreamRec records.streams[i] (bank == 1 && s.banks.touchedStreams[i])))) ∧
    (Takes s (some .readGroup) q rest r →
      let first := argByte q 22
      let count := argByte q 21
      (2 ≤ bank ∨ count = 0 ∨ 3 ≤ count → answers .readGroup .badField (· = [])) ∧
      (bank ≤ 1 → 1 ≤ count → count ≤ 2 → 64 < first + count → answers .readGroup .badIndex (· = [])) ∧
      (bank ≤ 1 → 1 ≤ count → count ≤ 2 → first + count ≤ 64 → answers .readGroup .ok (fun data =>
        data.length = 13 * count ∧ ∀ (k : Nat) (g : GroupId), k < count → g.val = first + k →
          (data.drop (13 * k)).take 13 = encodeGroupRec records.groups[g] (bank == 1 && s.banks.touchedGroups[g])))) ∧
    (Takes s (some .readPart) q rest r →
      (2 ≤ bank → answers .readPart .badField (· = [])) ∧
      (bank ≤ 1 → answers .readPart .ok (· = encodePartRec records.part (bank == 1 && s.banks.touchedPart))))

/-- CLAIM without a holder makes the requester the holder and every notice due again; by the holder it changes the
notice stream id; against another holder it is answered CLAIMED with the holder's tag. RELEASE by the holder ends the
claim and clears the cache, and is not cached (R169, R170, R173). -/
def Obligations.ClaimAndRelease : Prop :=
  ∀ (s : State) (q : Request) (rest : List Request) (r : RespId), Passes s q →
    let same := fun t : State => t.pt = s.pt ∧ t.tf = s.tf ∧ t.groups = s.groups ∧ t.streams = s.streams ∧
      t.pool = s.pool ∧ t.banks = s.banks ∧ t.pending = s.pending ∧ t.me.requests = rest ∧
      t.me.resetting = s.me.resetting ∧ t.me.nextNumber = s.me.nextNumber ∧ t.me.overflow = s.me.overflow
    (Takes s (some .claim) q rest r →
      (s.me.claim.holder = none → ∃ t, exec .claim s = .next t ∧ same t ∧
        t.me.claim = ⟨some (controllerTag q), q.port, replyId q, s.part.leaseLen⟩ ∧
        t.me.cache = some ⟨transactionTag q, requestCode q, .ok, []⟩ ∧
        t.me.notices = s.me.notices.map (fun n => { n with age := none }) ∧
        Responded r q (responseFor s q (requestCode q) .ok []) s t) ∧
      (ByHolder s q → ∃ t, exec .claim s = .next t ∧ same t ∧
        t.me.claim = { renewed s q with noticeId := replyId q } ∧
        t.me.cache = some ⟨transactionTag q, requestCode q, .ok, []⟩ ∧ t.me.notices = s.me.notices ∧
        Responded r q (responseFor s q (requestCode q) .ok []) s t) ∧
      (∀ tag, s.me.claim.holder = some tag → tag ≠ controllerTag q → ∃ t data, exec .claim s = .next t ∧
        Answered q rest r .claimed data s t ∧ data.length = 2 ∧ data.getD 0 0 ++ data.getD 1 0 = tag)) ∧
    (Takes s (some .release) q rest r → ByHolder s q → ∃ t, exec .release s = .next t ∧ same t ∧
      t.me.claim.holder = none ∧ t.me.cache = none ∧ t.me.notices = s.me.notices ∧
      Responded r q (responseFor s q (requestCode q) .ok []) s t)

/-- In IDLE a write by the holder whose bytes hold, as 11.3 lays it out, a record in its ranges stores that record whole in
the shadow with its touched mark set, and no other record, mark or block changes but for the answer (R114 to R117, R177,
R193). -/
def Obligations.WritesStoreTheRecord : Prop :=
  ∀ (s : State) (q : Request) (rest : List Request) (r : RespId), Passes s q → ByHolder s q → s.banks.state = .idle →
    let stored := fun (i : Instr) (b : Banks) => ∃ t, exec i s = .next t ∧ t.banks = b ∧
      Answered q rest r .ok [] s { t with banks := s.banks }
    (∀ (i : StreamId) (x : StreamRec), Takes s (some .writeStream) q rest r → argHalf q 20 = i.val → x.action.legal →
      StreamLayout (fun k => cellByte q.cell (22 + k)) x →
      stored .writeStream { s.banks with
        shadow := { s.banks.shadow with streams := s.banks.shadow.streams.set i.val x i.isLt }
        touchedStreams := s.banks.touchedStreams.set i.val true i.isLt }) ∧
    (∀ (g : GroupId) (x : GroupRec), Takes s (some .writeGroup) q rest r → argByte q 20 = g.val → x.legal →
      GroupLayout (fun k => cellByte q.cell (21 + k)) x →
      stored .writeGroup { s.banks with
        shadow := { s.banks.shadow with groups := s.banks.shadow.groups.set g.val x g.isLt }
        touchedGroups := s.banks.touchedGroups.set g.val true g.isLt }) ∧
    (∀ x : PartRec, Takes s (some .writePart) q rest r → x.legal →
      PartLayout (fun k => cellByte q.cell (20 + k)) x →
      stored .writePart { s.banks with shadow := { s.banks.shadow with part := x }, touchedPart := true })

/-- A write is refused in ARMED with SHADOW_ARMED, in REFRESH with SHADOW_BUSY, then for an index out of range with
BAD_INDEX, then by the record's bytes: a field out of its range or a code that names no value with BAD_FIELD, a set with a
common bit with BAD_SET, close_tick not above open_tick or quorum above contributors with BAD_FIELD. A refused write stores
nothing; bytes that meet none of the rows hold a record in its ranges (R114 to R117, R192, R193). -/
def Obligations.WritesAreRefused : Prop :=
  ∀ (s : State) (q : Request) (rest : List Request) (r : RespId), Passes s q → ByHolder s q →
    let refused := fun (i : Instr) (st : Status) => ∃ t, exec i s = .next t ∧ Answered q rest r st [] s t
    (∀ c : Instr × RequestName,
      c ∈ [(Instr.writeStream, RequestName.writeStream), (.writeGroup, .writeGroup), (.writePart, .writePart)] →
      Takes s (some c.2) q rest r →
        (s.banks.state = .armed → refused c.1 .shadowArmed) ∧ (s.banks.state = .refresh → refused c.1 .shadowBusy)) ∧
    (s.banks.state = .idle →
      (Takes s (some .writeStream) q rest r → 1024 ≤ argHalf q 20 → refused .writeStream .badIndex) ∧
      (Takes s (some .writeGroup) q rest r → 64 ≤ argByte q 20 → refused .writeGroup .badIndex) ∧
      (Takes s (some .writeStream) q rest r → argHalf q 20 < 1024 →
        let b := fun k => cellByte q.cell (22 + k)
        let code := (b 0).toNat
        let forwards := code = 1 ∨ code = 3
        let outOfRange := 4 ≤ code ∨
          ((b 1).getLsbD 2 = true ∧ 1024 ≤ (b 2 ++ b 3 : Half).toNat) ∨ ((b 1).getLsbD 3 = true ∧ 8 ≤ (b 4).toNat) ∨
          (forwards ∧ (8 ≤ (b 5).toNat ∨ 8 ≤ (b 6).toNat)) ∨
          ((code = 2 ∨ code = 3) ∧ (64 ≤ (b 7).toNat ∨ 8 ≤ (b 8).toNat ∨ 8 ≤ (b 9).toNat))
        let common := forwards ∧ b 5 &&& b 6 ≠ 0
        (outOfRange → refused .writeStream .badField) ∧ (¬ outOfRange → common → refused .writeStream .badSet) ∧
        (¬ outOfRange → ¬ common → ∃ x : StreamRec, x.action.legal ∧ StreamLayout b x)) ∧
      (Takes s (some .writeGroup) q rest r → argByte q 20 < 64 →
        let b := fun k => cellByte q.cell (21 + k)
        let openTick := (b 2 ++ b 3 : Half).toNat
        let closeTick := (b 4 ++ b 5 : Half).toNat
        let outOfRange := 4 ≤ (b 1).toNat ∨ 16383 ≤ openTick ∨ closeTick = 0 ∨ 16384 ≤ closeTick ∨
          (b 6).toNat = 0 ∨ 9 ≤ (b 6).toNat ∨ (b 7).toNat = 0 ∨ 9 ≤ (b 7).toNat ∨ (b 8).toNat = 0 ∨ 17 ≤ (b 8).toNat ∨
          1024 ≤ (b 9 ++ b 10 : Half).toNat ∨ 8 ≤ (b 11).toNat ∨ 8 ≤ (b 12).toNat
        let common := b 11 &&& b 12 ≠ 0
        let crossed := closeTick ≤ openTick ∨ (b 6).toNat < (b 7).toNat
        (outOfRange → refused .writeGroup .badField) ∧ (¬ outOfRange → common → refused .writeGroup .badSet) ∧
        (¬ outOfRange → ¬ common → crossed → refused .writeGroup .badField) ∧
        (¬ outOfRange → ¬ common → ¬ crossed → ∃ x : GroupRec, x.legal ∧ GroupLayout b x)) ∧
      (Takes s (some .writePart) q rest r →
        let b := fun k => cellByte q.cell (20 + k)
        let half := fun k => (b k ++ b (k + 1) : Half).toNat
        let outOfRange := 1024 ≤ half 4 ∨ half 6 < 64 ∨ 16384 ≤ half 6 ∨ 16 ≤ (b 8).toNat ∨ 8 ≤ (b 9).toNat ∨
          64 ≤ (b 10).toNat ∨ 1024 ≤ half 11 ∨ half 13 < 16 ∨ half 15 = 0
        (outOfRange → refused .writePart .badField) ∧
        (¬ outOfRange → ∃ x : PartRec, x.legal ∧ PartLayout b x)))

/-- COMMIT in IDLE arms exactly a shadow bank that satisfies the five checks and otherwise answers CHECK_FAILED, with the
reason of the first check that fails in the order WINDOW, SLOT_RANGE, SLOT_TAKEN, NO_MGMT_PORT, TIMING_PORT and the lowest
index that fails it, and stays IDLE; in ARMED it is answered ALREADY_ARMED and in REFRESH SHADOW_BUSY (R118, R119,
R192). -/
def Obligations.CommitChecksAndArms : Prop :=
  ∀ (s : State) (q : Request) (rest : List Request) (r : RespId), Passes s q → ByHolder s q →
    Takes s (some .commit) q rest r →
    let b := s.banks.shadow
    (s.banks.state = .idle → b.consistent → ∃ t, exec .commit s = .next t ∧
      t.banks = { s.banks with state := .armed } ∧ Answered q rest r .ok [] s { t with banks := s.banks }) ∧
    (s.banks.state = .idle → ¬ b.consistent → ∃ t reason index, exec .commit s = .next t ∧
      Answered q rest r .checkFailed [reason, BitVec.ofNat 8 (index / 256), BitVec.ofNat 8 (index % 256)] s t ∧
      let closesLate := fun g : GroupId => b.groups[g].enabled = true ∧
        b.part.baseLen < b.groups[g].closeTick + b.part.margin + 1
      let outside := fun i : StreamId => ∃ g k, b.streams[i].names g k ∧ b.groups[g].contributors ≤ k.val
      let taken := fun i : StreamId => ∃ (j : StreamId) (g : GroupId) (k : Slot),
        j < i ∧ b.streams[i].names g k ∧ b.streams[j].names g k
      let noMgmtPort := ∀ p : Port, inPortList b.part.mgmtPorts p = true → inPortList b.part.portEnable p = false
      (∀ g, closesLate g → (∀ h, h < g → ¬ closesLate h) → reason = 1 ∧ index = g.val) ∧
      ((∀ g, ¬ closesLate g) →
        (∀ i, outside i → (∀ j, j < i → ¬ outside j) → reason = 2 ∧ index = i.val) ∧
        ((∀ i, ¬ outside i) →
          (∀ i, taken i → (∀ j, j < i → ¬ taken j) → reason = 3 ∧ index = i.val) ∧
          ((∀ i, ¬ taken i) →
            (noMgmtPort → reason = 4 ∧ index = 0) ∧
            (¬ noMgmtPort → reason = 5 ∧ index = b.part.timingPort.val))))) ∧
    (s.banks.state = .armed → ∃ t, exec .commit s = .next t ∧ Answered q rest r .alreadyArmed [] s t) ∧
    (s.banks.state = .refresh → ∃ t, exec .commit s = .next t ∧ Answered q rest r .shadowBusy [] s t)

/-- CANCEL by the holder in ARMED makes the state IDLE with the shadow bank and its touched marks kept, and is answered
OK; in IDLE or REFRESH it is answered NOT_ARMED and changes nothing (R121). -/
def Obligations.CancelDisarms : Prop :=
  ∀ (s : State) (q : Request) (rest : List Request) (r : RespId), Passes s q → ByHolder s q →
    Takes s (some .cancel) q rest r →
    (s.banks.state = .armed → ∃ t, exec .cancel s = .next t ∧ t.banks = { s.banks with state := .idle } ∧
      Answered q rest r .ok [] s { t with banks := s.banks }) ∧
    (s.banks.state ≠ .armed → ∃ t, exec .cancel s = .next t ∧ Answered q rest r .notArmed [] s t)

/-- CLEAR_COUNTERS by the holder zeroes the counters of its scope and, but for the answer, nothing else: links, signal
marks, error runs, queues, transmitters and the rest of ME stay. ACK_NOTICE removes the notices from the head that its
number covers, answers how many, and leaves the rest; RESET sets the RESETTING mark (R158, R178, R184, R186). -/
def Obligations.ClearAcknowledgeReset : Prop :=
  ∀ (s : State) (q : Request) (rest : List Request) (r : RespId), Passes s q → ByHolder s q →
    (Takes s (some .clearCounters) q rest r →
      let scope := argByte q 20
      let i := argHalf q 21
      let st : Status := if 4 ≤ scope then .badField
        else if (scope = 1 ∧ 8 ≤ i) ∨ (scope = 2 ∧ 1024 ≤ i) ∨ (scope = 3 ∧ 64 ≤ i) then .badIndex else .ok
      let cleared := st = .ok
      ∃ t u, exec .clearCounters s = .next t ∧ Answered q rest r st [] u t ∧
      u = { s with ports := u.ports, streams := u.streams, groups := u.groups, tf := u.tf } ∧
      (∀ p : Port, u.ports[p] = { s.ports[p] with counters := if cleared ∧ (scope = 0 ∨ (scope = 1 ∧ i = p.val))
        then ⟨0, 0, 0, 0, 0, 0, 0, 0, 0, 0, 0⟩ else s.ports[p].counters }) ∧
      (∀ j : StreamId, u.streams[j] = { s.streams[j] with counters := if cleared ∧ (scope = 0 ∨ (scope = 2 ∧ i = j.val))
        then ⟨0, 0, 0, 0, 0, 0, 0, 0, 0, 0, 0, 0, 0⟩ else s.streams[j].counters }) ∧
      (∀ g : GroupId, u.groups[g] = { s.groups[g] with counters := if cleared ∧ (scope = 0 ∨ (scope = 3 ∧ i = g.val))
        then ⟨0, 0, 0, 0, 0, 0, 0⟩ else s.groups[g].counters }) ∧
      (scope = 0 → u.tf = { s.tf with
        miss := 0, silent := 0, syncInTol := 0, syncOutTol := 0, syncMissing := 0, steps := 0, numberSlip := 0 }) ∧
      (scope ≠ 0 → u.tf = s.tf)) ∧
    (Takes s (some .ackNotice) q rest r →
      ∀ gone kept, s.me.notices = gone ++ kept →
        let covers := fun x : Notice => (cellHalf q.cell 20 - x.number).toNat < 32768
        (∀ x ∈ gone, covers x) → (∀ x xs, kept = x :: xs → ¬ covers x) →
        ∃ t data, exec .ackNotice s = .next t ∧ t.me.notices = kept ∧ data = [BitVec.ofNat 8 gone.length] ∧
          Answered q rest r .ok data s { t with me := { t.me with notices := s.me.notices } }) ∧
    (Takes s (some .reset) q rest r → ∃ t, exec .reset s = .next t ∧ t.me.resetting = true ∧
      Answered q rest r .ok [] s { t with me := { t.me with resetting := s.me.resetting } })

/-- What ME answers without executing the request: BAD_REQUEST for a code that names no request; NOT_OWNER for a reserved
request from a controller that does not hold the claim; and for every request, named or not, BAD_FIELD for a controller tag
of 0, before the claim or the cache is looked at, and for a duplicate the cached code, status and data (R165, R174). -/
def Obligations.RequestsNotExecuted : Prop :=
  ∀ (s : State) (q : Request) (rest : List Request) (r : RespId),
    (Takes s none q rest r → Passes s q →
      ∃ t, exec .badRequest s = .next t ∧ Answered q rest r .badRequest [] s t) ∧
    (∀ c : Instr × RequestName,
      c ∈ [(Instr.release, RequestName.release), (.writeStream, .writeStream), (.writeGroup, .writeGroup),
        (.writePart, .writePart), (.commit, .commit), (.cancel, .cancel), (.clearCounters, .clearCounters),
        (.ackNotice, .ackNotice), (.reset, .reset)] →
      Takes s (some c.2) q rest r → Passes s q → ¬ ByHolder s q →
      ∃ t, exec c.1 s = .next t ∧ Answered q rest r .notOwner [] s t) ∧
    (∀ c : Instr × Option RequestName,
      c ∈ [(Instr.badRequest, none), (.identify, some .identify), (.claim, some .claim), (.release, some .release),
        (.readStatus, some .readStatus), (.readStream, some .readStream), (.readGroup, some .readGroup),
        (.readPart, some .readPart), (.readGroupState, some .readGroupState),
        (.readPortCounters, some .readPortCounters), (.readStreamCounters, some .readStreamCounters),
        (.readGroupCounters, some .readGroupCounters), (.readTiming, some .readTiming),
        (.writeStream, some .writeStream), (.writeGroup, some .writeGroup), (.writePart, some .writePart),
        (.commit, some .commit), (.cancel, some .cancel), (.clearCounters, some .clearCounters),
        (.ackNotice, some .ackNotice), (.reset, some .reset)] →
      Takes s c.2 q rest r →
      let silent := fun t : State => t.pt = s.pt ∧ t.tf = s.tf ∧ t.groups = s.groups ∧ t.streams = s.streams ∧
        t.pool = s.pool ∧ t.banks = s.banks ∧ t.pending = s.pending ∧ t.me.requests = rest ∧ t.me.cache = s.me.cache ∧
        t.me.notices = s.me.notices ∧ t.me.resetting = s.me.resetting ∧ t.me.nextNumber = s.me.nextNumber ∧
        t.me.overflow = s.me.overflow
      (controllerTag q = 0 → ∃ t, exec c.1 s = .next t ∧ silent t ∧ t.me.claim = s.me.claim ∧
        Responded r q (responseFor s q (requestCode q) .badField []) s t) ∧
      (∀ e, controllerTag q ≠ 0 → Repeats s q e → ∃ t, exec c.1 s = .next t ∧ silent t ∧ t.me.claim = renewed s q ∧
        Responded r q (responseFor s q e.code e.status e.data) s t))
end

