-- ==== Sys2Proof/Laws/State.lean ====
section
/-!
SUPPORT. The small lemmas of the state's updates: reading an element after a change of one, and which part of the state
each update leaves alone. Later proofs cite these and never unfold a record update.
-/

namespace Sys2Proof.Machine

/-! ### One element of a vector -/

theorem vecMod_get {α : Type} {n : Nat} (v : Vector α n) (i j : Fin n) (f : α → α) :
    (vecMod v i f)[j] = if i = j then f v[i] else v[j] := by
  rw [vecMod, Fin.getElem_fin, Vector.getElem_set]
  simp [Fin.ext_iff]

@[simp] theorem vecMod_getElem {α : Type} {n : Nat} (v : Vector α n) (i : Fin n) (f : α → α) (j : Nat) (h : j < n) :
    (vecMod v i f)[j] = if i.val = j then f v[i] else v[j] := by
  rw [vecMod, Vector.getElem_set]

@[simp] theorem vecMod_self {α : Type} {n : Nat} (v : Vector α n) (i : Fin n) (f : α → α) :
    (vecMod v i f)[i.val] = f v[i] := by simp

theorem vecMod_ne {α : Type} {n : Nat} (v : Vector α n) {i j : Fin n} (f : α → α) (h : i ≠ j) :
    (vecMod v i f)[j] = v[j] := (vecMod_get v i j f).trans (if_neg h)

theorem set_get {α : Type} {n : Nat} (v : Vector α n) (i j : Fin n) (x : α) :
    (v.set i.val x i.isLt)[j] = if i = j then x else v[j] := by
  rw [Fin.getElem_fin, Vector.getElem_set]
  simp [Fin.ext_iff]

theorem vec_ext {α : Type} {n : Nat} {v w : Vector α n} (h : ∀ i : Fin n, v[i] = w[i]) : v = w := by
  apply Vector.ext
  intro i hi
  exact h ⟨i, hi⟩

theorem ofFn_get {α : Type} {n : Nat} (f : Fin n → α) (i : Fin n) : (Vector.ofFn f)[i] = f i := by
  simp

theorem vecMod_vecMod {α : Type} {n : Nat} (v : Vector α n) (i : Fin n) (f g : α → α) :
    vecMod (vecMod v i f) i g = vecMod v i (fun x => g (f x)) :=
  vec_ext (fun j => by
    rw [vecMod_get, vecMod_get, vecMod_get, vecMod_get]
    by_cases h : i = j <;> simp [h])

theorem vecMod_id {α : Type} {n : Nat} (v : Vector α n) (i : Fin n) {f : α → α} (h : f v[i] = v[i]) :
    vecMod v i f = v :=
  vec_ext (fun j => by
    rw [vecMod_get]
    by_cases e : i = j
    · subst e; simpa using h
    · simp [e])

/-! ### What each update leaves alone -/

section
variable (s : State)

@[simp] theorem State.modPort_ports (p : Port) (f : PortState → PortState) : (s.modPort p f).ports = vecMod s.ports p f := rfl
@[simp] theorem State.modPort_pt (p : Port) (f : PortState → PortState) : (s.modPort p f).pt = s.pt := rfl
@[simp] theorem State.modPort_tf (p : Port) (f : PortState → PortState) : (s.modPort p f).tf = s.tf := rfl
@[simp] theorem State.modPort_groups (p : Port) (f : PortState → PortState) : (s.modPort p f).groups = s.groups := rfl
@[simp] theorem State.modPort_streams (p : Port) (f : PortState → PortState) : (s.modPort p f).streams = s.streams := rfl
@[simp] theorem State.modPort_pool (p : Port) (f : PortState → PortState) : (s.modPort p f).pool = s.pool := rfl
@[simp] theorem State.modPort_banks (p : Port) (f : PortState → PortState) : (s.modPort p f).banks = s.banks := rfl
@[simp] theorem State.modPort_me (p : Port) (f : PortState → PortState) : (s.modPort p f).me = s.me := rfl
@[simp] theorem State.modPort_pending (p : Port) (f : PortState → PortState) : (s.modPort p f).pending = s.pending := rfl

@[simp] theorem State.modGroup_groups (g : GroupId) (f : Accum → Accum) : (s.modGroup g f).groups = vecMod s.groups g f := rfl
@[simp] theorem State.modGroup_pt (g : GroupId) (f : Accum → Accum) : (s.modGroup g f).pt = s.pt := rfl
@[simp] theorem State.modGroup_tf (g : GroupId) (f : Accum → Accum) : (s.modGroup g f).tf = s.tf := rfl
@[simp] theorem State.modGroup_streams (g : GroupId) (f : Accum → Accum) : (s.modGroup g f).streams = s.streams := rfl
@[simp] theorem State.modGroup_pool (g : GroupId) (f : Accum → Accum) : (s.modGroup g f).pool = s.pool := rfl
@[simp] theorem State.modGroup_ports (g : GroupId) (f : Accum → Accum) : (s.modGroup g f).ports = s.ports := rfl
@[simp] theorem State.modGroup_banks (g : GroupId) (f : Accum → Accum) : (s.modGroup g f).banks = s.banks := rfl
@[simp] theorem State.modGroup_me (g : GroupId) (f : Accum → Accum) : (s.modGroup g f).me = s.me := rfl
@[simp] theorem State.modGroup_pending (g : GroupId) (f : Accum → Accum) : (s.modGroup g f).pending = s.pending := rfl

@[simp] theorem State.modStream_streams (i : StreamId) (f : StreamState → StreamState) :
    (s.modStream i f).streams = vecMod s.streams i f := rfl
@[simp] theorem State.modStream_pt (i : StreamId) (f : StreamState → StreamState) : (s.modStream i f).pt = s.pt := rfl
@[simp] theorem State.modStream_tf (i : StreamId) (f : StreamState → StreamState) : (s.modStream i f).tf = s.tf := rfl
@[simp] theorem State.modStream_groups (i : StreamId) (f : StreamState → StreamState) : (s.modStream i f).groups = s.groups := rfl
@[simp] theorem State.modStream_pool (i : StreamId) (f : StreamState → StreamState) : (s.modStream i f).pool = s.pool := rfl
@[simp] theorem State.modStream_ports (i : StreamId) (f : StreamState → StreamState) : (s.modStream i f).ports = s.ports := rfl
@[simp] theorem State.modStream_banks (i : StreamId) (f : StreamState → StreamState) : (s.modStream i f).banks = s.banks := rfl
@[simp] theorem State.modStream_me (i : StreamId) (f : StreamState → StreamState) : (s.modStream i f).me = s.me := rfl
@[simp] theorem State.modStream_pending (i : StreamId) (f : StreamState → StreamState) : (s.modStream i f).pending = s.pending := rfl

@[simp] theorem State.modBuffer_pool (b : BufId) (f : Buffer → Buffer) : (s.modBuffer b f).pool = vecMod s.pool b f := rfl
@[simp] theorem State.modBuffer_pt (b : BufId) (f : Buffer → Buffer) : (s.modBuffer b f).pt = s.pt := rfl
@[simp] theorem State.modBuffer_tf (b : BufId) (f : Buffer → Buffer) : (s.modBuffer b f).tf = s.tf := rfl
@[simp] theorem State.modBuffer_groups (b : BufId) (f : Buffer → Buffer) : (s.modBuffer b f).groups = s.groups := rfl
@[simp] theorem State.modBuffer_streams (b : BufId) (f : Buffer → Buffer) : (s.modBuffer b f).streams = s.streams := rfl
@[simp] theorem State.modBuffer_ports (b : BufId) (f : Buffer → Buffer) : (s.modBuffer b f).ports = s.ports := rfl
@[simp] theorem State.modBuffer_banks (b : BufId) (f : Buffer → Buffer) : (s.modBuffer b f).banks = s.banks := rfl
@[simp] theorem State.modBuffer_me (b : BufId) (f : Buffer → Buffer) : (s.modBuffer b f).me = s.me := rfl
@[simp] theorem State.modBuffer_pending (b : BufId) (f : Buffer → Buffer) : (s.modBuffer b f).pending = s.pending := rfl

@[simp] theorem State.modMe_me (f : Management → Management) : (s.modMe f).me = f s.me := rfl
@[simp] theorem State.modMe_pt (f : Management → Management) : (s.modMe f).pt = s.pt := rfl
@[simp] theorem State.modMe_tf (f : Management → Management) : (s.modMe f).tf = s.tf := rfl
@[simp] theorem State.modMe_groups (f : Management → Management) : (s.modMe f).groups = s.groups := rfl
@[simp] theorem State.modMe_streams (f : Management → Management) : (s.modMe f).streams = s.streams := rfl
@[simp] theorem State.modMe_pool (f : Management → Management) : (s.modMe f).pool = s.pool := rfl
@[simp] theorem State.modMe_ports (f : Management → Management) : (s.modMe f).ports = s.ports := rfl
@[simp] theorem State.modMe_banks (f : Management → Management) : (s.modMe f).banks = s.banks := rfl
@[simp] theorem State.modMe_pending (f : Management → Management) : (s.modMe f).pending = s.pending := rfl

@[simp] theorem State.modTf_tf (f : Follower → Follower) : (s.modTf f).tf = f s.tf := rfl
@[simp] theorem State.modTf_pt (f : Follower → Follower) : (s.modTf f).pt = s.pt := rfl
@[simp] theorem State.modTf_groups (f : Follower → Follower) : (s.modTf f).groups = s.groups := rfl
@[simp] theorem State.modTf_streams (f : Follower → Follower) : (s.modTf f).streams = s.streams := rfl
@[simp] theorem State.modTf_pool (f : Follower → Follower) : (s.modTf f).pool = s.pool := rfl
@[simp] theorem State.modTf_ports (f : Follower → Follower) : (s.modTf f).ports = s.ports := rfl
@[simp] theorem State.modTf_banks (f : Follower → Follower) : (s.modTf f).banks = s.banks := rfl
@[simp] theorem State.modTf_me (f : Follower → Follower) : (s.modTf f).me = s.me := rfl
@[simp] theorem State.modTf_pending (f : Follower → Follower) : (s.modTf f).pending = s.pending := rfl

@[simp] theorem State.modPt_pt (f : PeriodTimer → PeriodTimer) : (s.modPt f).pt = f s.pt := rfl
@[simp] theorem State.modPt_tf (f : PeriodTimer → PeriodTimer) : (s.modPt f).tf = s.tf := rfl
@[simp] theorem State.modPt_groups (f : PeriodTimer → PeriodTimer) : (s.modPt f).groups = s.groups := rfl
@[simp] theorem State.modPt_streams (f : PeriodTimer → PeriodTimer) : (s.modPt f).streams = s.streams := rfl
@[simp] theorem State.modPt_pool (f : PeriodTimer → PeriodTimer) : (s.modPt f).pool = s.pool := rfl
@[simp] theorem State.modPt_ports (f : PeriodTimer → PeriodTimer) : (s.modPt f).ports = s.ports := rfl
@[simp] theorem State.modPt_banks (f : PeriodTimer → PeriodTimer) : (s.modPt f).banks = s.banks := rfl
@[simp] theorem State.modPt_me (f : PeriodTimer → PeriodTimer) : (s.modPt f).me = s.me := rfl
@[simp] theorem State.modPt_pending (f : PeriodTimer → PeriodTimer) : (s.modPt f).pending = s.pending := rfl

@[simp] theorem State.modBanks_banks (f : Banks → Banks) : (s.modBanks f).banks = f s.banks := rfl
@[simp] theorem State.modBanks_pt (f : Banks → Banks) : (s.modBanks f).pt = s.pt := rfl
@[simp] theorem State.modBanks_tf (f : Banks → Banks) : (s.modBanks f).tf = s.tf := rfl
@[simp] theorem State.modBanks_groups (f : Banks → Banks) : (s.modBanks f).groups = s.groups := rfl
@[simp] theorem State.modBanks_streams (f : Banks → Banks) : (s.modBanks f).streams = s.streams := rfl
@[simp] theorem State.modBanks_pool (f : Banks → Banks) : (s.modBanks f).pool = s.pool := rfl
@[simp] theorem State.modBanks_ports (f : Banks → Banks) : (s.modBanks f).ports = s.ports := rfl
@[simp] theorem State.modBanks_me (f : Banks → Banks) : (s.modBanks f).me = s.me := rfl
@[simp] theorem State.modBanks_pending (f : Banks → Banks) : (s.modBanks f).pending = s.pending := rfl

end

end Sys2Proof.Machine
end

