-- ==== Sys2Proof/Laws/Ops.lean ====
section
/-!
SUPPORT. What each shared operation can do and what it leaves alone: one lemma per operation, cited in place of its
definition.
-/

namespace Sys2Proof.Machine

/-! ### Notices, buffers, slots -/

/-- Queueing a notice touches the notice queue, the next number and the overflow mark alone. -/
@[simp] theorem enqueueNotice_frame (t : Topic) (pl : NoticePayload) (m : Management) :
    (enqueueNotice t pl m).requests = m.requests ∧ (enqueueNotice t pl m).slots = m.slots ∧
    (enqueueNotice t pl m).resetting = m.resetting ∧ (enqueueNotice t pl m).claim = m.claim ∧
    (enqueueNotice t pl m).cache = m.cache := by
  unfold enqueueNotice
  split
  · simp
  · split <;> simp

/-- What a block's notice does to the notice queue: replaced, dropped or appended (R181). -/
theorem enqueueNotice_cases (t : Topic) (pl : NoticePayload) (m : Management) :
    (∃ old, m.notices.find? (fun n => n.topic == t) = some old ∧
      (enqueueNotice t pl m).notices = m.notices.eraseP (fun n => n.topic == t) ++
        [{ number := m.nextNumber, topic := t, payload := pl, repeats := min 255 (old.repeats + 1), age := none }] ∧
      (enqueueNotice t pl m).nextNumber = m.nextNumber + 1 ∧ (enqueueNotice t pl m).overflow = m.overflow) ∨
    (m.notices.find? (fun n => n.topic == t) = none ∧ 16 ≤ m.notices.length ∧
      enqueueNotice t pl m = { m with overflow := true }) ∨
    (m.notices.find? (fun n => n.topic == t) = none ∧ m.notices.length < 16 ∧
      (enqueueNotice t pl m).notices = m.notices ++
        [{ number := m.nextNumber, topic := t, payload := pl, repeats := 1, age := none }] ∧
      (enqueueNotice t pl m).nextNumber = m.nextNumber + 1 ∧ (enqueueNotice t pl m).overflow = m.overflow) := by
  unfold enqueueNotice
  split
  · rename_i old h
    exact Or.inl ⟨old, h, rfl, rfl, rfl⟩
  · rename_i h
    split
    · rename_i h2
      exact Or.inr (Or.inl ⟨h, h2, rfl⟩)
    · rename_i h2
      exact Or.inr (Or.inr ⟨h, Nat.lt_of_not_le h2, rfl, rfl, rfl⟩)

@[simp] theorem queueNotice_frame (t : Topic) (pl : NoticePayload) (s : State) :
    (queueNotice t pl s).pt = s.pt ∧ (queueNotice t pl s).tf = s.tf ∧ (queueNotice t pl s).groups = s.groups ∧
    (queueNotice t pl s).streams = s.streams ∧ (queueNotice t pl s).pool = s.pool ∧
    (queueNotice t pl s).ports = s.ports ∧ (queueNotice t pl s).banks = s.banks ∧
    (queueNotice t pl s).pending = s.pending ∧ (queueNotice t pl s).me = enqueueNotice t pl s.me :=
  ⟨rfl, rfl, rfl, rfl, rfl, rfl, rfl, rfl, rfl⟩

@[simp] theorem queueTiming_frame (t : TimingState) (s : State) :
    (queueTiming t s).pt = s.pt ∧ (queueTiming t s).tf = s.tf ∧ (queueTiming t s).groups = s.groups ∧
    (queueTiming t s).streams = s.streams ∧ (queueTiming t s).pool = s.pool ∧
    (queueTiming t s).ports = s.ports ∧ (queueTiming t s).banks = s.banks ∧
    (queueTiming t s).pending = s.pending ∧ (queueTiming t s).me = enqueueNotice .timing (.timing t) s.me :=
  ⟨rfl, rfl, rfl, rfl, rfl, rfl, rfl, rfl, rfl⟩

@[simp] theorem storeCell_frame (b : BufId) (c : Cell) (n : Nat) (s : State) :
    (storeCell b c n s).pt = s.pt ∧ (storeCell b c n s).tf = s.tf ∧ (storeCell b c n s).groups = s.groups ∧
    (storeCell b c n s).streams = s.streams ∧ (storeCell b c n s).ports = s.ports ∧
    (storeCell b c n s).banks = s.banks ∧ (storeCell b c n s).me = s.me ∧ (storeCell b c n s).pending = s.pending ∧
    (storeCell b c n s).pool = vecMod s.pool b (fun _ => { cell := c, refs := n }) :=
  ⟨rfl, rfl, rfl, rfl, rfl, rfl, rfl, rfl, rfl⟩

@[simp] theorem releaseBuffer_frame (b : BufId) (s : State) :
    (releaseBuffer b s).pt = s.pt ∧ (releaseBuffer b s).tf = s.tf ∧ (releaseBuffer b s).groups = s.groups ∧
    (releaseBuffer b s).streams = s.streams ∧ (releaseBuffer b s).ports = s.ports ∧
    (releaseBuffer b s).banks = s.banks ∧ (releaseBuffer b s).me = s.me ∧ (releaseBuffer b s).pending = s.pending ∧
    (releaseBuffer b s).pool = vecMod s.pool b (fun x => { x with refs := x.refs - 1 }) :=
  ⟨rfl, rfl, rfl, rfl, rfl, rfl, rfl, rfl, rfl⟩

theorem findFinIdx?_some {α : Type} {n : Nat} {p : α → Bool} {v : Vector α n} {i : Fin n}
    (h : v.findFinIdx? p = some i) : p v[i] = true := by
  unfold Vector.findFinIdx? at h
  obtain ⟨j, hj, rfl⟩ := Option.map_eq_some_iff.mp h
  exact (Array.findFinIdx?_eq_some_iff.mp hj).1

/-- A buffer that POOL gives is free. -/
theorem takeBuffer_free {s : State} {b : BufId} (h : takeBuffer s = some b) : s.pool[b].refs = 0 := by
  simpa [Buffer.isFree] using findFinIdx?_some h

/-- The slot ME takes is free. -/
theorem freeSlot?_free {s : State} {r : RespId} (h : freeSlot? s = some r) : s.me.slots[r] = none := by
  simpa using findFinIdx?_some h

/-! ### The arbiter and the queues -/

/-- The arbiter starts the head of one queue of its port, or does nothing (R100). -/
theorem arbitrate_cases (p : Port) (s : State) :
    arbitrate p s = s ∨
    ∃ l c, arbitrate p s = s.modPort p (fun q => { q with tx := .sending l c }) ∧ s.ports[p].tx = .idle ∧
      s.ports[p].link = .up ∧
      ((l = .control ∧ ∃ e es, s.ports[p].control = e :: es ∧ c = controlCell s e) ∨
       (l = .data ∧ s.ports[p].control = [] ∧ ∃ b bs, s.ports[p].data = b :: bs ∧ c = s.pool[b].cell)) := by
  unfold arbitrate
  split
  · rename_i h
    split
    · rename_i e es hc
      exact Or.inr ⟨_, _, rfl, h.1, h.2, Or.inl ⟨rfl, e, es, hc, rfl⟩⟩
    · rename_i b bs hc hd
      exact Or.inr ⟨_, _, rfl, h.1, h.2, Or.inr ⟨rfl, hc, b, bs, hd, rfl⟩⟩
    · exact Or.inl rfl
  · exact Or.inl rfl

@[simp] theorem arbitrate_frame (p : Port) (s : State) :
    (arbitrate p s).pt = s.pt ∧ (arbitrate p s).tf = s.tf ∧ (arbitrate p s).groups = s.groups ∧
    (arbitrate p s).streams = s.streams ∧ (arbitrate p s).pool = s.pool ∧ (arbitrate p s).banks = s.banks ∧
    (arbitrate p s).me = s.me ∧ (arbitrate p s).pending = s.pending := by
  rcases arbitrate_cases p s with h | ⟨l, c, h, -⟩ <;> rw [h] <;> simp

@[simp] theorem appendData_frame (b : BufId) (s : State) (p : Port) :
    (appendData b s p).pt = s.pt ∧ (appendData b s p).tf = s.tf ∧ (appendData b s p).groups = s.groups ∧
    (appendData b s p).streams = s.streams ∧ (appendData b s p).pool = s.pool ∧
    (appendData b s p).banks = s.banks ∧ (appendData b s p).me = s.me ∧ (appendData b s p).pending = s.pending := by
  simp [appendData]

@[simp] theorem appendControl_frame (p : Port) (e : ControlEntry) (s : State) :
    (appendControl p e s).pt = s.pt ∧ (appendControl p e s).tf = s.tf ∧ (appendControl p e s).groups = s.groups ∧
    (appendControl p e s).streams = s.streams ∧ (appendControl p e s).pool = s.pool ∧
    (appendControl p e s).banks = s.banks ∧ (appendControl p e s).me = s.me ∧
    (appendControl p e s).pending = s.pending := by
  simp [appendControl]

/-- A property that one step keeps is kept by a fold. -/
theorem foldl_keeps {α β : Type} (P : α → Prop) (f : α → β → α) (h : ∀ a b, P a → P (f a b)) :
    ∀ (l : List β) (a : α), P a → P (l.foldl f a)
  | [], _, ha => ha
  | b :: l, a, ha => foldl_keeps P f h l (f a b) (h a b ha)

/-- A part of the state that one step leaves alone is left alone by a fold. -/
theorem foldl_frame {α β γ : Type} (g : α → γ) (f : α → β → α) (h : ∀ a b, g (f a b) = g a) (l : List β) (a : α) :
    g (l.foldl f a) = g a :=
  foldl_keeps (fun x => g x = g a) f (fun x b hx => (h x b).trans hx) l a rfl

@[simp] theorem returnEntry_frame (s : State) (e : ControlEntry) :
    (returnEntry s e).pt = s.pt ∧ (returnEntry s e).tf = s.tf ∧ (returnEntry s e).groups = s.groups ∧
    (returnEntry s e).streams = s.streams ∧ (returnEntry s e).pool = s.pool ∧ (returnEntry s e).ports = s.ports ∧
    (returnEntry s e).banks = s.banks ∧ (returnEntry s e).pending = s.pending ∧
    (returnEntry s e).me.requests = s.me.requests ∧ (returnEntry s e).me.resetting = s.me.resetting ∧
    (returnEntry s e).me.claim = s.me.claim ∧ (returnEntry s e).me.cache = s.me.cache ∧
    (returnEntry s e).me.notices = s.me.notices ∧ (returnEntry s e).me.nextNumber = s.me.nextNumber ∧
    (returnEntry s e).me.overflow = s.me.overflow := by
  cases e <;> simp [returnEntry, freeSlot]

/-- A flush reaches one port, the reference counts and the response slots (R104). -/
@[simp] theorem flush_frame (p : Port) (s : State) :
    (flush p s).pt = s.pt ∧ (flush p s).tf = s.tf ∧ (flush p s).groups = s.groups ∧
    (flush p s).streams = s.streams ∧ (flush p s).banks = s.banks ∧ (flush p s).pending = s.pending ∧
    (flush p s).me.requests = s.me.requests ∧ (flush p s).me.resetting = s.me.resetting ∧
    (flush p s).me.claim = s.me.claim ∧ (flush p s).me.cache = s.me.cache ∧
    (flush p s).me.notices = s.me.notices ∧ (flush p s).me.nextNumber = s.me.nextNumber ∧
    (flush p s).me.overflow = s.me.overflow := by
  have key : ∀ {γ : Type} (g : State → γ), (∀ a e, g (returnEntry a e) = g a) → (∀ a b, g (releaseBuffer b a) = g a) →
      g (s.ports[p].control.foldl returnEntry (s.ports[p].data.foldl (fun t b => releaseBuffer b t) s)) = g s :=
    fun g h1 h2 => (foldl_frame g _ h1 _ _).trans (foldl_frame g _ (fun a b => h2 a b) _ _)
  simp only [flush, State.modPort_pt, State.modPort_tf, State.modPort_groups, State.modPort_streams,
    State.modPort_banks, State.modPort_pending, State.modPort_me]
  refine ⟨key (·.pt) ?_ ?_, key (·.tf) ?_ ?_, key (·.groups) ?_ ?_, key (·.streams) ?_ ?_, key (·.banks) ?_ ?_,
    key (·.pending) ?_ ?_, key (·.me.requests) ?_ ?_, key (·.me.resetting) ?_ ?_, key (·.me.claim) ?_ ?_,
    key (·.me.cache) ?_ ?_, key (·.me.notices) ?_ ?_, key (·.me.nextNumber) ?_ ?_, key (·.me.overflow) ?_ ?_⟩ <;>
    intros <;> simp

/-! ### Destination sets -/

@[simp] theorem countDrops_frame (d : Dest) (e : Option Port) (s : State) :
    (countDrops d e s).pt = s.pt ∧ (countDrops d e s).tf = s.tf ∧ (countDrops d e s).groups = s.groups ∧
    (countDrops d e s).streams = s.streams ∧ (countDrops d e s).pool = s.pool ∧ (countDrops d e s).banks = s.banks ∧
    (countDrops d e s).me = s.me ∧ (countDrops d e s).pending = s.pending := by
  have key : ∀ {γ : Type} (g : State → γ), (∀ (a : State) (p : Port) (f : PortCounters → PortCounters), g (a.countPort p f) = g a) →
      g (countDrops d e s) = g s := fun g h => foldl_frame g _ (fun a p => h a p _) _ _
  exact ⟨key (·.pt) (fun _ _ _ => rfl), key (·.tf) (fun _ _ _ => rfl), key (·.groups) (fun _ _ _ => rfl),
    key (·.streams) (fun _ _ _ => rfl), key (·.pool) (fun _ _ _ => rfl), key (·.banks) (fun _ _ _ => rfl),
    key (·.me) (fun _ _ _ => rfl), key (·.pending) (fun _ _ _ => rfl)⟩

@[simp] theorem appendToAll_frame (b : BufId) (c : Cell) (l : List Port) (s : State) :
    (appendToAll b c l s).pt = s.pt ∧ (appendToAll b c l s).tf = s.tf ∧ (appendToAll b c l s).groups = s.groups ∧
    (appendToAll b c l s).streams = s.streams ∧ (appendToAll b c l s).banks = s.banks ∧
    (appendToAll b c l s).me = s.me ∧ (appendToAll b c l s).pending = s.pending ∧
    (appendToAll b c l s).pool = vecMod s.pool b (fun _ => { cell := c, refs := l.length }) := by
  have key : ∀ {γ : Type} (g : State → γ), (∀ (a : State) (p : Port), g (appendData b a p) = g a) →
      g (appendToAll b c l s) = g (storeCell b c l.length s) := fun g h => foldl_frame g _ h _ _
  refine ⟨key (·.pt) ?_, key (·.tf) ?_, key (·.groups) ?_, key (·.streams) ?_, key (·.banks) ?_, key (·.me) ?_,
    key (·.pending) ?_, key (·.pool) ?_⟩ <;> intros <;> simp

/-! ### The Combine Engine -/

@[simp] theorem contribute_frame (i : StreamId) (f : Feed) (n : Nat) (v : Samples) (s : State) :
    (contribute i f n v s).pt = s.pt ∧ (contribute i f n v s).tf = s.tf ∧ (contribute i f n v s).pool = s.pool ∧
    (contribute i f n v s).ports = s.ports ∧ (contribute i f n v s).banks = s.banks ∧
    (contribute i f n v s).me = s.me ∧ (contribute i f n v s).pending = s.pending := by
  unfold contribute
  split <;> simp [State.countStream]

/-- What an emission leaves alone; of ME it reaches the notices alone. -/
@[simp] theorem emit_frame (g : GroupId) (v : Samples) (sh : Bool) (s : State) :
    (emit g v sh s).pt = s.pt ∧ (emit g v sh s).tf = s.tf ∧ (emit g v sh s).streams = s.streams ∧
    (emit g v sh s).banks = s.banks ∧ (emit g v sh s).pending = s.pending ∧
    (emit g v sh s).me.requests = s.me.requests ∧ (emit g v sh s).me.slots = s.me.slots ∧
    (emit g v sh s).me.resetting = s.me.resetting ∧ (emit g v sh s).me.claim = s.me.claim ∧
    (emit g v sh s).me.cache = s.me.cache := by
  unfold emit
  split
  · simp [State.countGroup]
  · dsimp only
    split <;> simp [State.countGroup]

@[simp] theorem noteShort_frame (g : GroupId) (s : State) :
    (noteShort g s).pt = s.pt ∧ (noteShort g s).tf = s.tf ∧ (noteShort g s).streams = s.streams ∧
    (noteShort g s).pool = s.pool ∧ (noteShort g s).ports = s.ports ∧
    (noteShort g s).banks = s.banks ∧ (noteShort g s).pending = s.pending ∧
    (noteShort g s).me.requests = s.me.requests ∧ (noteShort g s).me.slots = s.me.slots ∧
    (noteShort g s).me.resetting = s.me.resetting ∧ (noteShort g s).me.claim = s.me.claim ∧
    (noteShort g s).me.cache = s.me.cache := by
  unfold noteShort
  dsimp only
  split <;> simp [State.countGroup]

@[simp] theorem closeGroup_frame (forced : Bool) (g : GroupId) (s : State) :
    (closeGroup forced g s).pt = s.pt ∧ (closeGroup forced g s).tf = s.tf ∧
    (closeGroup forced g s).streams = s.streams ∧ (closeGroup forced g s).banks = s.banks ∧
    (closeGroup forced g s).pending = s.pending ∧
    (closeGroup forced g s).me.requests = s.me.requests ∧ (closeGroup forced g s).me.slots = s.me.slots ∧
    (closeGroup forced g s).me.resetting = s.me.resetting ∧ (closeGroup forced g s).me.claim = s.me.claim ∧
    (closeGroup forced g s).me.cache = s.me.cache := by
  unfold closeGroup
  dsimp only
  split
  · cases forced <;> split <;> simp [formedClose, shortClose, markCut, State.countGroup] <;> split <;> simp
  · simp

@[simp] theorem openGroup_frame (g : GroupId) (s : State) :
    (openGroup g s).pt = s.pt ∧ (openGroup g s).tf = s.tf ∧ (openGroup g s).streams = s.streams ∧
    (openGroup g s).pool = s.pool ∧ (openGroup g s).ports = s.ports ∧ (openGroup g s).banks = s.banks ∧
    (openGroup g s).me = s.me ∧ (openGroup g s).pending = s.pending := by
  unfold openGroup
  split <;> simp

/-! ### Links -/

@[simp] theorem timingPortLost_frame (s : State) :
    (timingPortLost s).pt = s.pt ∧ (timingPortLost s).groups = s.groups ∧ (timingPortLost s).streams = s.streams ∧
    (timingPortLost s).pool = s.pool ∧ (timingPortLost s).ports = s.ports ∧ (timingPortLost s).banks = s.banks ∧
    (timingPortLost s).pending = s.pending ∧ (timingPortLost s).me.requests = s.me.requests ∧
    (timingPortLost s).me.slots = s.me.slots ∧ (timingPortLost s).me.resetting = s.me.resetting ∧
    (timingPortLost s).me.claim = s.me.claim ∧ (timingPortLost s).me.cache = s.me.cache := by
  unfold timingPortLost
  split <;> simp

@[simp] theorem dropLink_frame (p : Port) (l : Link) (s : State) :
    (dropLink p l s).pt = s.pt ∧ (dropLink p l s).tf = s.tf ∧ (dropLink p l s).groups = s.groups ∧
    (dropLink p l s).streams = s.streams ∧ (dropLink p l s).banks = s.banks ∧ (dropLink p l s).pending = s.pending ∧
    (dropLink p l s).me.requests = s.me.requests ∧ (dropLink p l s).me.resetting = s.me.resetting ∧
    (dropLink p l s).me.claim = s.me.claim ∧ (dropLink p l s).me.cache = s.me.cache ∧
    (dropLink p l s).me.notices = s.me.notices ∧ (dropLink p l s).me.nextNumber = s.me.nextNumber ∧
    (dropLink p l s).me.overflow = s.me.overflow := by
  simp [dropLink]

@[simp] theorem tellFollower_frame (p : Port) (s : State) :
    (tellFollower p s).pt = s.pt ∧ (tellFollower p s).groups = s.groups ∧ (tellFollower p s).streams = s.streams ∧
    (tellFollower p s).pool = s.pool ∧ (tellFollower p s).ports = s.ports ∧ (tellFollower p s).banks = s.banks ∧
    (tellFollower p s).pending = s.pending ∧ (tellFollower p s).me.requests = s.me.requests ∧
    (tellFollower p s).me.slots = s.me.slots ∧ (tellFollower p s).me.resetting = s.me.resetting ∧
    (tellFollower p s).me.claim = s.me.claim ∧ (tellFollower p s).me.cache = s.me.cache := by
  unfold tellFollower
  split <;> simp

@[simp] theorem leaveUp_frame (p : Port) (l : Link) (o : LossOrder) (s : State) :
    (leaveUp p l o s).pt = s.pt ∧ (leaveUp p l o s).groups = s.groups ∧ (leaveUp p l o s).streams = s.streams ∧
    (leaveUp p l o s).banks = s.banks ∧ (leaveUp p l o s).pending = s.pending ∧
    (leaveUp p l o s).me.requests = s.me.requests ∧ (leaveUp p l o s).me.resetting = s.me.resetting ∧
    (leaveUp p l o s).me.claim = s.me.claim ∧ (leaveUp p l o s).me.cache = s.me.cache := by
  unfold leaveUp
  cases o <;> simp [queueLink]

@[simp] theorem completeControl_frame (p : Port) (s : State) :
    (completeControl p s).pt = s.pt ∧ (completeControl p s).tf = s.tf ∧ (completeControl p s).groups = s.groups ∧
    (completeControl p s).streams = s.streams ∧ (completeControl p s).pool = s.pool ∧
    (completeControl p s).banks = s.banks ∧ (completeControl p s).pending = s.pending ∧
    (completeControl p s).me.requests = s.me.requests ∧ (completeControl p s).me.resetting = s.me.resetting ∧
    (completeControl p s).me.claim = s.me.claim ∧ (completeControl p s).me.cache = s.me.cache ∧
    (completeControl p s).me.notices = s.me.notices ∧ (completeControl p s).me.nextNumber = s.me.nextNumber ∧
    (completeControl p s).me.overflow = s.me.overflow := by
  unfold completeControl
  split <;> simp [endTransmission]

@[simp] theorem completeData_frame (p : Port) (s : State) :
    (completeData p s).pt = s.pt ∧ (completeData p s).tf = s.tf ∧ (completeData p s).groups = s.groups ∧
    (completeData p s).streams = s.streams ∧ (completeData p s).banks = s.banks ∧ (completeData p s).me = s.me ∧
    (completeData p s).pending = s.pending := by
  unfold completeData
  split <;> simp [endTransmission]

/-! ### The Ingress Classifier and the Replication Unit -/

@[simp] theorem forwardCell_frame (i : StreamId) (d : Dest) (r : StreamRec) (p : Port) (c : Cell) (s : State) :
    (forwardCell i d r p c s).pt = s.pt ∧ (forwardCell i d r p c s).tf = s.tf ∧
    (forwardCell i d r p c s).groups = s.groups ∧ (forwardCell i d r p c s).banks = s.banks ∧
    (forwardCell i d r p c s).pending = s.pending ∧ (forwardCell i d r p c s).me.requests = s.me.requests ∧
    (forwardCell i d r p c s).me.slots = s.me.slots ∧ (forwardCell i d r p c s).me.resetting = s.me.resetting ∧
    (forwardCell i d r p c s).me.claim = s.me.claim ∧ (forwardCell i d r p c s).me.cache = s.me.cache := by
  unfold forwardCell
  dsimp only
  split
  · simp [State.countStream]
  · split <;> simp [State.countStream]

@[simp] theorem contributeCell_frame (i : StreamId) (f : Feed) (c : Cell) (s : State) :
    (contributeCell i f c s).pt = s.pt ∧ (contributeCell i f c s).tf = s.tf ∧
    (contributeCell i f c s).pool = s.pool ∧ (contributeCell i f c s).ports = s.ports ∧
    (contributeCell i f c s).banks = s.banks ∧ (contributeCell i f c s).me = s.me ∧
    (contributeCell i f c s).pending = s.pending := by
  unfold contributeCell
  split <;> simp [State.countStream]

@[simp] theorem acceptCell_frame (i : StreamId) (r : StreamRec) (p : Port) (c : Cell) (s : State) :
    (acceptCell i r p c s).pt = s.pt ∧ (acceptCell i r p c s).tf = s.tf ∧
    (acceptCell i r p c s).banks = s.banks ∧ (acceptCell i r p c s).pending = s.pending ∧
    (acceptCell i r p c s).me.requests = s.me.requests ∧ (acceptCell i r p c s).me.slots = s.me.slots ∧
    (acceptCell i r p c s).me.resetting = s.me.resetting ∧ (acceptCell i r p c s).me.claim = s.me.claim ∧
    (acceptCell i r p c s).me.cache = s.me.cache := by
  unfold acceptCell handOn
  split <;> simp [State.countStream]

@[simp] theorem lookUp_frame (i : StreamId) (p : Port) (c : Cell) (s : State) :
    (lookUp i p c s).pt = s.pt ∧ (lookUp i p c s).tf = s.tf ∧ (lookUp i p c s).banks = s.banks ∧
    (lookUp i p c s).pending = s.pending ∧ (lookUp i p c s).me.requests = s.me.requests ∧
    (lookUp i p c s).me.slots = s.me.slots ∧ (lookUp i p c s).me.resetting = s.me.resetting ∧
    (lookUp i p c s).me.claim = s.me.claim ∧ (lookUp i p c s).me.cache = s.me.cache := by
  unfold lookUp
  dsimp only
  split
  · simp [State.countStream]
  · split
    · simp [State.countStream]
    · unfold sequenceStage
      dsimp only
      split <;> simp [State.countStream]

/-- An arrival reaches TF by handing a SYNC over alone, and neither the claim nor the cache. -/
@[simp] theorem classify_frame (p : Port) (c : Cell) (s : State) :
    (classify p c s).pt = s.pt ∧ (classify p c s).banks = s.banks ∧ (classify p c s).pending = s.pending ∧
    (classify p c s).tf.state = s.tf.state ∧ (classify p c s).me.slots = s.me.slots ∧
    (classify p c s).me.resetting = s.me.resetting ∧ (classify p c s).me.claim = s.me.claim ∧
    (classify p c s).me.cache = s.me.cache := by
  unfold classify
  split
  · simp [State.countPort]
  · split
    · simp
    · split
      · unfold takeInRequest
        split
        · split <;> simp [State.countPort]
        · simp [State.countPort]
      · simp

@[simp] theorem failCheck_frame (p : Port) (o : LossOrder) (s : State) :
    (failCheck p o s).pt = s.pt ∧ (failCheck p o s).groups = s.groups ∧ (failCheck p o s).streams = s.streams ∧
    (failCheck p o s).banks = s.banks ∧ (failCheck p o s).pending = s.pending ∧
    (failCheck p o s).me.requests = s.me.requests ∧ (failCheck p o s).me.resetting = s.me.resetting ∧
    (failCheck p o s).me.claim = s.me.claim ∧ (failCheck p o s).me.cache = s.me.cache := by
  unfold failCheck
  dsimp only
  split <;> simp

/-! ### The boundary's actions -/

@[simp] theorem placeSync_frame (s : State) (p : Port) :
    (placeSync s p).pt = s.pt ∧ (placeSync s p).tf = s.tf ∧ (placeSync s p).groups = s.groups ∧
    (placeSync s p).streams = s.streams ∧ (placeSync s p).pool = s.pool ∧ (placeSync s p).banks = s.banks ∧
    (placeSync s p).me = s.me ∧ (placeSync s p).pending = s.pending := by
  unfold placeSync
  split
  · split <;> simp [State.countPort]
  · simp

@[simp] theorem expireClaim_frame (tag : Half) (s : State) :
    (expireClaim tag s).pt = s.pt ∧ (expireClaim tag s).tf = s.tf ∧ (expireClaim tag s).groups = s.groups ∧
    (expireClaim tag s).streams = s.streams ∧ (expireClaim tag s).pool = s.pool ∧
    (expireClaim tag s).ports = s.ports ∧ (expireClaim tag s).banks = s.banks ∧
    (expireClaim tag s).pending = s.pending ∧ (expireClaim tag s).me.requests = s.me.requests ∧
    (expireClaim tag s).me.slots = s.me.slots ∧ (expireClaim tag s).me.resetting = s.me.resetting ∧
    (expireClaim tag s).me.claim.holder = none ∧ (expireClaim tag s).me.cache = none := by
  simp [expireClaim]

@[simp] theorem countLease_frame (s : State) :
    (countLease s).pt = s.pt ∧ (countLease s).tf = s.tf ∧ (countLease s).groups = s.groups ∧
    (countLease s).streams = s.streams ∧ (countLease s).pool = s.pool ∧ (countLease s).ports = s.ports ∧
    (countLease s).banks = s.banks ∧ (countLease s).pending = s.pending ∧
    (countLease s).me.requests = s.me.requests ∧ (countLease s).me.slots = s.me.slots ∧
    (countLease s).me.resetting = s.me.resetting := by
  unfold countLease
  split
  · simp
  · dsimp only
    split <;> simp

@[simp] theorem sendNotice_frame (s : State) :
    (sendNotice s).pt = s.pt ∧ (sendNotice s).tf = s.tf ∧ (sendNotice s).groups = s.groups ∧
    (sendNotice s).streams = s.streams ∧ (sendNotice s).pool = s.pool ∧ (sendNotice s).banks = s.banks ∧
    (sendNotice s).pending = s.pending ∧ (sendNotice s).me.requests = s.me.requests ∧
    (sendNotice s).me.slots = s.me.slots ∧ (sendNotice s).me.resetting = s.me.resetting ∧
    (sendNotice s).me.claim = s.me.claim ∧ (sendNotice s).me.cache = s.me.cache ∧
    (sendNotice s).me.nextNumber = s.me.nextNumber := by
  unfold sendNotice
  split
  · split <;> simp
  · simp

@[simp] theorem ageNotices_frame (s : State) :
    (ageNotices s).pt = s.pt ∧ (ageNotices s).tf = s.tf ∧ (ageNotices s).groups = s.groups ∧
    (ageNotices s).streams = s.streams ∧ (ageNotices s).pool = s.pool ∧ (ageNotices s).ports = s.ports ∧
    (ageNotices s).banks = s.banks ∧ (ageNotices s).pending = s.pending ∧
    (ageNotices s).me.requests = s.me.requests ∧ (ageNotices s).me.slots = s.me.slots ∧
    (ageNotices s).me.resetting = s.me.resetting ∧ (ageNotices s).me.claim = s.me.claim ∧
    (ageNotices s).me.cache = s.me.cache ∧ (ageNotices s).me.nextNumber = s.me.nextNumber ∧
    (ageNotices s).me.overflow = s.me.overflow := by
  simp [ageNotices]

@[simp] theorem followPortEnable_frame (l : PortList) (p : Port) (s : State) :
    (followPortEnable l p s).pt = s.pt ∧ (followPortEnable l p s).tf = s.tf ∧
    (followPortEnable l p s).groups = s.groups ∧ (followPortEnable l p s).streams = s.streams ∧
    (followPortEnable l p s).banks = s.banks ∧ (followPortEnable l p s).pending = s.pending ∧
    (followPortEnable l p s).me.requests = s.me.requests ∧ (followPortEnable l p s).me.resetting = s.me.resetting ∧
    (followPortEnable l p s).me.claim = s.me.claim ∧ (followPortEnable l p s).me.cache = s.me.cache := by
  unfold followPortEnable
  split
  · split <;> simp [queueLink]
  · split <;> simp

@[simp] theorem reevaluate_frame (r : PartRec) (s : State) :
    (reevaluate r s).pt = s.pt ∧ (reevaluate r s).groups = s.groups ∧ (reevaluate r s).streams = s.streams ∧
    (reevaluate r s).pool = s.pool ∧ (reevaluate r s).ports = s.ports ∧ (reevaluate r s).banks = s.banks ∧
    (reevaluate r s).pending = s.pending ∧ (reevaluate r s).me.requests = s.me.requests ∧
    (reevaluate r s).me.slots = s.me.slots ∧ (reevaluate r s).me.resetting = s.me.resetting ∧
    (reevaluate r s).me.claim = s.me.claim ∧ (reevaluate r s).me.cache = s.me.cache ∧
    (reevaluate r s).tf.state = (reevaluated r s.part s.tf.state).1 := by
  unfold reevaluate
  dsimp only
  split <;> split <;> simp_all

@[simp] theorem silentCheck_frame (s : State) :
    (silentCheck s).pt = s.pt ∧ (silentCheck s).groups = s.groups ∧ (silentCheck s).streams = s.streams ∧
    (silentCheck s).pool = s.pool ∧ (silentCheck s).ports = s.ports ∧ (silentCheck s).banks = s.banks ∧
    (silentCheck s).pending = s.pending ∧ (silentCheck s).me.requests = s.me.requests ∧
    (silentCheck s).me.slots = s.me.slots ∧ (silentCheck s).me.resetting = s.me.resetting ∧
    (silentCheck s).me.claim = s.me.claim ∧ (silentCheck s).me.cache = s.me.cache := by
  unfold silentCheck
  split
  · simp
  · dsimp only
    split <;> split <;> simp [loseLockBySilence]

/-- What one action of a boundary leaves alone. -/
@[simp] theorem boundaryAct_frame (w : Swap) (s : State) (a : BoundaryAct) :
    (boundaryAct w s a).pt = s.pt ∧ (boundaryAct w s a).groups = s.groups ∧
    (boundaryAct w s a).streams = s.streams ∧ (boundaryAct w s a).banks = s.banks ∧
    (boundaryAct w s a).pending = s.pending ∧ (boundaryAct w s a).me.requests = s.me.requests ∧
    (boundaryAct w s a).me.resetting = s.me.resetting := by
  have hs : ∀ {γ : Type} (g : State → γ), (∀ (a : State) (p : Port), g (placeSync a p) = g a) →
      g (allPorts.foldl placeSync s) = g s := fun g h => foldl_frame g _ h _ _
  cases a <;> simp only [boundaryAct]
  case syncOut =>
    refine ⟨hs (·.pt) ?_, hs (·.groups) ?_, hs (·.streams) ?_, hs (·.banks) ?_, hs (·.pending) ?_,
      hs (·.me.requests) ?_, hs (·.me.resetting) ?_⟩ <;> intros <;> simp
  all_goals first
    | (split <;> simp)
    | simp

@[simp] theorem swapBanks_frame (s : State) :
    (swapBanks s).pt = s.pt ∧ (swapBanks s).tf = s.tf ∧ (swapBanks s).pool = s.pool ∧
    (swapBanks s).ports = s.ports ∧ (swapBanks s).me = s.me ∧ (swapBanks s).pending = s.pending ∧
    (swapBanks s).banks = { s.banks with
      active := s.banks.shadow, shadow := s.banks.active, state := .refresh, copyPos := 0, copyAge := 0 } := by
  rw [swapBanks]
  simp only [and_self]

@[simp] theorem afterSwap_frame (s : State) :
    (afterSwap s).pt = s.pt ∧ (afterSwap s).tf = s.tf ∧ (afterSwap s).pool = s.pool ∧
    (afterSwap s).ports = s.ports ∧ (afterSwap s).me = s.me ∧ (afterSwap s).pending = s.pending := by
  unfold afterSwap
  split <;> simp

@[simp] theorem doneToIdle_frame (s : State) :
    (doneToIdle s).pt = s.pt ∧ (doneToIdle s).tf = s.tf ∧ (doneToIdle s).streams = s.streams ∧
    (doneToIdle s).pool = s.pool ∧ (doneToIdle s).ports = s.ports ∧ (doneToIdle s).banks = s.banks ∧
    (doneToIdle s).me = s.me ∧ (doneToIdle s).pending = s.pending := by
  rw [doneToIdle]
  simp only [and_self]

@[simp] theorem enterPeriod_frame (k : BoundaryKind) (s : State) :
    (enterPeriod k s).tf = s.tf ∧ (enterPeriod k s).pool = s.pool ∧ (enterPeriod k s).ports = s.ports ∧
    (enterPeriod k s).me = s.me ∧ (enterPeriod k s).pending = s.pending ∧
    (enterPeriod k s).banks = (afterSwap s).banks ∧ (enterPeriod k s).streams = (afterSwap s).streams ∧
    (enterPeriod k s).pt = beginPeriod k (afterSwap s).part s.pt := by
  simp [enterPeriod]

/-- What a property that every action keeps gives of a whole boundary or step. -/
theorem takeBoundary_keeps (P : State → Prop) (k : BoundaryKind) (sch : List BoundaryAct) (s : State)
    (h : ∀ t a, P t → P (boundaryAct (swapOf s) t a)) (h0 : P (enterPeriod k s)) : P (takeBoundary k sch s) :=
  foldl_keeps P _ h _ _ h0

/-- What a whole boundary or step leaves as its entry into the new period has set it. -/
@[simp] theorem takeBoundary_frame (k : BoundaryKind) (sch : List BoundaryAct) (s : State) :
    (takeBoundary k sch s).pt = beginPeriod k (afterSwap s).part s.pt ∧
    (takeBoundary k sch s).groups = (enterPeriod k s).groups ∧
    (takeBoundary k sch s).streams = (afterSwap s).streams ∧ (takeBoundary k sch s).banks = (afterSwap s).banks ∧
    (takeBoundary k sch s).pending = s.pending ∧ (takeBoundary k sch s).me.requests = s.me.requests ∧
    (takeBoundary k sch s).me.resetting = s.me.resetting := by
  refine takeBoundary_keeps (fun t => t.pt = _ ∧ t.groups = _ ∧ t.streams = _ ∧ t.banks = _ ∧ t.pending = _ ∧
    t.me.requests = _ ∧ t.me.resetting = _) k sch s (fun t a h => ?_) (by simp)
  simpa using h

/-! ### Following, the refresh and the soft reset -/

@[simp] theorem forceCloses_frame (l : List GroupId) (s : State) :
    (forceCloses l s).pt = s.pt ∧ (forceCloses l s).tf = s.tf ∧ (forceCloses l s).streams = s.streams ∧
    (forceCloses l s).banks = s.banks ∧ (forceCloses l s).pending = s.pending ∧
    (forceCloses l s).me.requests = s.me.requests ∧ (forceCloses l s).me.slots = s.me.slots ∧
    (forceCloses l s).me.resetting = s.me.resetting ∧ (forceCloses l s).me.claim = s.me.claim ∧
    (forceCloses l s).me.cache = s.me.cache :=
  foldl_keeps (fun t : State => t.pt = s.pt ∧ t.tf = s.tf ∧ t.streams = s.streams ∧ t.banks = s.banks ∧
    t.pending = s.pending ∧ t.me.requests = s.me.requests ∧ t.me.slots = s.me.slots ∧
    t.me.resetting = s.me.resetting ∧ t.me.claim = s.me.claim ∧ t.me.cache = s.me.cache)
    _ (fun a b h => by simpa using h) _ _ (by simp)

@[simp] theorem askForStep_frame (n : Half) (s : State) :
    (askForStep n s).pt = { s.pt with stepRequest := some n } ∧ (askForStep n s).groups = s.groups ∧
    (askForStep n s).streams = s.streams ∧ (askForStep n s).pool = s.pool ∧ (askForStep n s).ports = s.ports ∧
    (askForStep n s).banks = s.banks ∧ (askForStep n s).pending = s.pending ∧
    (askForStep n s).me = enqueueNotice .timing (.timing .locked) s.me ∧
    (askForStep n s).tf = { s.tf with state := .locked, miss := 0, steps := satInc s.tf.steps } :=
  ⟨rfl, rfl, rfl, rfl, rfl, rfl, rfl, rfl, rfl⟩

@[simp] theorem followSync_frame (n : Half) (d : Int) (s : State) :
    (followSync n d s).groups = s.groups ∧ (followSync n d s).streams = s.streams ∧
    (followSync n d s).pool = s.pool ∧ (followSync n d s).ports = s.ports ∧ (followSync n d s).banks = s.banks ∧
    (followSync n d s).pending = s.pending ∧ (followSync n d s).tf.state = .locked ∧
    (followSync n d s).pt = { s.pt with pendingAdj := some d, pendingNum := some (nextNumber n d) } := by
  unfold followSync
  dsimp only
  split <;> simp

@[simp] theorem missSync_frame (s : State) :
    (missSync s).pt = s.pt ∧ (missSync s).groups = s.groups ∧ (missSync s).streams = s.streams ∧
    (missSync s).pool = s.pool ∧ (missSync s).ports = s.ports ∧ (missSync s).banks = s.banks ∧
    (missSync s).pending = s.pending := by
  unfold missSync giveUpLock
  dsimp only
  split <;> simp

@[simp] theorem refuseSync_frame (s : State) :
    (refuseSync s).pt = s.pt ∧ (refuseSync s).groups = s.groups ∧ (refuseSync s).streams = s.streams ∧
    (refuseSync s).pool = s.pool ∧ (refuseSync s).ports = s.ports ∧ (refuseSync s).banks = s.banks ∧
    (refuseSync s).pending = s.pending ∧ (refuseSync s).tf.state = .acquire :=
  ⟨rfl, rfl, rfl, rfl, rfl, rfl, rfl, rfl⟩

@[simp] theorem ageCopy_frame (s : State) :
    (ageCopy s).pt = s.pt ∧ (ageCopy s).tf = s.tf ∧ (ageCopy s).groups = s.groups ∧
    (ageCopy s).streams = s.streams ∧ (ageCopy s).pool = s.pool ∧ (ageCopy s).ports = s.ports ∧
    (ageCopy s).me = s.me ∧ (ageCopy s).pending = s.pending ∧ (ageCopy s).banks.active = s.banks.active ∧
    (ageCopy s).banks.shadow = s.banks.shadow ∧ (ageCopy s).banks.state = s.banks.state ∧
    (ageCopy s).banks.touchedStreams = s.banks.touchedStreams ∧
    (ageCopy s).banks.touchedGroups = s.banks.touchedGroups ∧
    (ageCopy s).banks.touchedPart = s.banks.touchedPart ∧ (ageCopy s).banks.copyPos = s.banks.copyPos := by
  unfold ageCopy
  split <;> simp

@[simp] theorem softResetAll_frame (s : State) :
    (softResetAll s).pt = PeriodTimer.afterReset s.part.baseLen ∧
    (softResetAll s).tf = { Follower.afterReset (sourceState s.part) with handed := s.tf.handed } ∧
    (softResetAll s).banks = softResetBanks s.banks ∧ (softResetAll s).me = Management.afterReset .startedSoft ∧
    (softResetAll s).pending = s.pending ∧
    (∀ g : GroupId, (softResetAll s).groups[g.val] = softResetGroup (s.groupRec g)) ∧
    (∀ b : BufId, (softResetAll s).pool[b.val] = { s.pool[b] with refs := 0 }) ∧
    (∀ p : Port, (softResetAll s).ports[p.val] = softResetPort s.ports[p]) := by
  rw [softResetAll]
  refine ⟨rfl, rfl, rfl, rfl, rfl, fun g => ?_, fun b => ?_, fun p => ?_⟩ <;> simp

/-! ### The Management Engine -/

/-- A response reaches one port and one slot (R166). -/
@[simp] theorem respond_frame (r : RespId) (q : Request) (code : Byte) (st : Status) (data : List Byte) (s : State) :
    (respond r q code st data s).pt = s.pt ∧ (respond r q code st data s).tf = s.tf ∧
    (respond r q code st data s).groups = s.groups ∧ (respond r q code st data s).streams = s.streams ∧
    (respond r q code st data s).pool = s.pool ∧ (respond r q code st data s).banks = s.banks ∧
    (respond r q code st data s).pending = s.pending ∧
    (respond r q code st data s).me.requests = s.me.requests ∧
    (respond r q code st data s).me.resetting = s.me.resetting ∧
    (respond r q code st data s).me.claim = s.me.claim ∧ (respond r q code st data s).me.cache = s.me.cache ∧
    (respond r q code st data s).me.notices = s.me.notices ∧
    (respond r q code st data s).me.nextNumber = s.me.nextNumber ∧
    (respond r q code st data s).me.overflow = s.me.overflow := by
  unfold respond
  split <;> simp [fillSlot, State.countPort]

@[simp] theorem renewClaim_frame (q : Request) (s : State) :
    (renewClaim q s).pt = s.pt ∧ (renewClaim q s).tf = s.tf ∧ (renewClaim q s).groups = s.groups ∧
    (renewClaim q s).streams = s.streams ∧ (renewClaim q s).pool = s.pool ∧ (renewClaim q s).ports = s.ports ∧
    (renewClaim q s).banks = s.banks ∧ (renewClaim q s).pending = s.pending ∧
    (renewClaim q s).me.requests = s.me.requests ∧ (renewClaim q s).me.slots = s.me.slots ∧
    (renewClaim q s).me.resetting = s.me.resetting ∧ (renewClaim q s).me.claim.holder = s.me.claim.holder ∧
    (renewClaim q s).me.claim.noticeId = s.me.claim.noticeId ∧ (renewClaim q s).me.cache = s.me.cache ∧
    (renewClaim q s).me.notices = s.me.notices ∧ (renewClaim q s).me.nextNumber = s.me.nextNumber ∧
    (renewClaim q s).me.overflow = s.me.overflow := by
  unfold renewClaim
  split <;> simp

@[simp] theorem updateCache_frame (q : Request) (code : Byte) (st : Status) (data : List Byte) (s : State) :
    (updateCache q code st data s).pt = s.pt ∧ (updateCache q code st data s).tf = s.tf ∧
    (updateCache q code st data s).groups = s.groups ∧ (updateCache q code st data s).streams = s.streams ∧
    (updateCache q code st data s).pool = s.pool ∧ (updateCache q code st data s).ports = s.ports ∧
    (updateCache q code st data s).banks = s.banks ∧ (updateCache q code st data s).pending = s.pending ∧
    (updateCache q code st data s).me.requests = s.me.requests ∧
    (updateCache q code st data s).me.slots = s.me.slots ∧
    (updateCache q code st data s).me.resetting = s.me.resetting ∧
    (updateCache q code st data s).me.claim = s.me.claim ∧
    (updateCache q code st data s).me.notices = s.me.notices ∧
    (updateCache q code st data s).me.nextNumber = s.me.nextNumber ∧
    (updateCache q code st data s).me.overflow = s.me.overflow := by
  unfold updateCache
  split <;> simp

/-- All that a request's command can do: nothing, or one request processed by the steps of R165. -/
theorem takeRequest_cases (name : Option RequestName) (body : Request → State → Answer) (s : State) :
    takeRequest name body s = s ∨
    ∃ q rest r, s.me.requests = q :: rest ∧ freeSlot? s = some r ∧ s.me.resetting = false ∧
      requestName (requestCode q) = name ∧
      takeRequest name body s = processRequest r name body q (s.modMe (fun m => { m with requests := rest })) := by
  unfold takeRequest
  split
  · rename_i q rest r hq hr
    split
    · rename_i h
      exact Or.inr ⟨q, rest, r, hq, hr, h.1, h.2, rfl⟩
    · exact Or.inl rfl
  · exact Or.inl rfl

end Sys2Proof.Machine
end

