-- ==== Sys2Proof/Laws/Combine.lean ====
section
/-!
SUPPORT. What each operation does to the accumulators' states: closes (R40, R54), the forced closes of a step (R12, R41),
boundaries and swaps (R19 to R21), and the operations that leave every state alone.
-/

namespace Sys2Proof.Machine

theorem modGroup_get (s : State) (g h : GroupId) (f : Accum → Accum) :
    (s.modGroup g f).groups[h] = if g = h then f s.groups[h] else s.groups[h] := by
  rw [State.modGroup_groups, vecMod_get]
  by_cases e : g = h
  · subst e; rw [if_pos rfl]
  · rw [if_neg e, if_neg e]

/-- An update that keeps the state of its group keeps every group's. -/
theorem modGroup_state (s : State) (g h : GroupId) (f : Accum → Accum) (hf : ∀ a, (f a).state = a.state) :
    (s.modGroup g f).groups[h].state = s.groups[h].state := by
  rw [modGroup_get]
  split
  · exact hf _
  · rfl

theorem emit_state (g h : GroupId) (v : Samples) (short : Bool) (s : State) :
    (emit g v short s).groups[h].state = s.groups[h].state := by
  unfold emit
  split
  · exact modGroup_state _ _ _ _ (by intro a; rfl)
  · dsimp only
    split
    · refine (modGroup_state _ _ _ _ (by intro a; rfl)).trans ?_
      simp
    · refine (modGroup_state _ _ _ _ (by intro a; rfl)).trans ?_
      simp

/-- SHORT counts and a notice at most is queued: the groups are those of the count. -/
theorem noteShort_groups (g : GroupId) (s : State) :
    (noteShort g s).groups = (s.countGroup g (fun c => { c with short := satInc c.short })).groups := by
  unfold noteShort
  dsimp only
  split <;> rfl

theorem noteShort_state (g h : GroupId) (s : State) : (noteShort g s).groups[h].state = s.groups[h].state := by
  simp only [noteShort_groups]
  exact modGroup_state _ _ _ _ (by intro a; rfl)

theorem formedClose_state (g h : GroupId) (s : State) : (formedClose g s).groups[h].state = s.groups[h].state := by
  unfold formedClose
  dsimp only
  split
  · exact emit_state ..
  · rw [emit_state]
    exact modGroup_state _ _ _ _ (by intro a; rfl)

theorem shortClose_state (g h : GroupId) (s : State) : (shortClose g s).groups[h].state = s.groups[h].state := by
  unfold shortClose
  split
  · refine (modGroup_state _ _ _ _ (by intro a; rfl)).trans ?_
    rw [noteShort_state]
  · rw [emit_state, noteShort_state]

theorem closeGroup_shut {forced : Bool} {g : GroupId} {s : State} (h : s.groups[g].state ≠ .opened) :
    closeGroup forced g s = s := if_neg h

theorem closeGroup_open {forced : Bool} {g : GroupId} {s : State} (h : s.groups[g].state = .opened) :
    closeGroup forced g s =
      (if arrivals s.groups[g] ≥ (s.groupRec g).quorum then formedClose g (if forced then markCut g s else s)
        else shortClose g (if forced then markCut g s else s)).modGroup g
        (fun a => { a with state := afterClose (s.groupRec g).mode }) := if_pos h

/-- A close ends the OPEN window of its group by the mode (R54). -/
theorem closeGroup_state_own (forced : Bool) {g : GroupId} {s : State} (h : s.groups[g].state = .opened) :
    (closeGroup forced g s).groups[g].state = afterClose (s.groupRec g).mode := by
  rw [closeGroup_open h, modGroup_get]
  simp only [if_true]

/-- A close leaves the state of every other group alone. -/
theorem closeGroup_state_other (forced : Bool) {g h : GroupId} (s : State) (e : g ≠ h) :
    (closeGroup forced g s).groups[h].state = s.groups[h].state := by
  by_cases ho : s.groups[g].state = .opened
  · rw [closeGroup_open ho, modGroup_get]
    simp only [if_neg e]
    have hm : (if forced then markCut g s else s).groups[h].state = s.groups[h].state := by
      cases forced
      · rfl
      · exact modGroup_state _ _ _ _ (by intro a; rfl)
    by_cases hq : arrivals s.groups[g] ≥ (s.groupRec g).quorum
    · simp only [if_pos hq]
      rw [formedClose_state]; exact hm
    · simp only [if_neg hq]
      rw [shortClose_state]; exact hm
  · rw [closeGroup_shut ho]

theorem afterClose_ne (m : GroupMode) : afterClose m ≠ .off ∧ afterClose m ≠ .idle ∧ afterClose m ≠ .opened := by
  cases m <;> simp [afterClose]

/-- A forced close that is not for an OPEN window leaves its state alone, wherever it stands in the list. -/
theorem forceCloses_state_shut (l : List GroupId) {t : State} {h : GroupId} (ht : t.groups[h].state ≠ .opened) :
    (forceCloses l t).groups[h].state = t.groups[h].state := by
  unfold forceCloses
  induction l generalizing t with
  | nil => rfl
  | cons g l ih =>
    have e : (closeGroup true g t).groups[h].state = t.groups[h].state := by
      by_cases e : g = h
      · subst e; rw [closeGroup_shut ht]
      · exact closeGroup_state_other _ _ e
    rw [List.foldl_cons, ih (by rw [e]; exact ht), e]

/-- Forced closes end the OPEN windows of the groups they name, and leave every other state alone (R12, R41). -/
theorem forceCloses_state (l : List GroupId) (s : State) (h : GroupId) : (forceCloses l s).groups[h].state =
    if s.groups[h].state = .opened ∧ h ∈ l then afterClose (s.groupRec h).mode else s.groups[h].state := by
  by_cases ho : s.groups[h].state = .opened
  · induction l generalizing s with
    | nil => simp [forceCloses]
    | cons g l ih =>
      have e1 : forceCloses (g :: l) s = forceCloses l (closeGroup true g s) := rfl
      rw [e1]
      by_cases e : g = h
      · subst e
        have hs := closeGroup_state_own true ho
        rw [forceCloses_state_shut _ (by rw [hs]; exact (afterClose_ne _).2.2), hs,
          if_pos ⟨ho, List.mem_cons_self ..⟩]
      · have hs := closeGroup_state_other true s e
        have hr : (closeGroup true g s).groupRec h = s.groupRec h := by simp [State.groupRec]
        rw [ih _ (by rw [hs]; exact ho), hs, hr]
        simp [Ne.symm e]
  · rw [forceCloses_state_shut _ ho, if_neg (fun x => ho x.1)]

/-- Contributions leave every accumulator's state alone (R22, R29). -/
theorem contributeCell_state (i : StreamId) (f : Feed) (c : Cell) (s : State) (h : GroupId) :
    (contributeCell i f c s).groups[h].state = s.groups[h].state := by
  unfold contributeCell contribute
  split
  · split
    · exact modGroup_state _ _ _ _ (by intro a; rfl)
    · rfl
  · rfl

theorem acceptCell_state (i : StreamId) (r : StreamRec) (p : Port) (c : Cell) (s : State) (h : GroupId) :
    (acceptCell i r p c s).groups[h].state = s.groups[h].state := by
  unfold acceptCell handOn
  split
  · rfl
  · simp [State.countStream]
  · rw [contributeCell_state]; rfl
  · rw [contributeCell_state]; simp [State.countStream]

/-- An arriving cell leaves every accumulator's state alone. -/
theorem classify_state (p : Port) (c : Cell) (s : State) (h : GroupId) :
    (classify p c s).groups[h].state = s.groups[h].state := by
  unfold classify
  split
  · rfl
  · split
    · rfl
    · split
      · unfold takeInRequest
        split
        · split <;> rfl
        · rfl
      · unfold lookUp
        dsimp only
        split
        · rfl
        · split
          · rfl
          · unfold sequenceStage
            dsimp only
            split
            · exact acceptCell_state ..
            · rfl
            · exact (acceptCell_state ..).trans rfl
            · exact (acceptCell_state ..).trans rfl
            · exact (acceptCell_state ..).trans rfl

/-! ### Boundaries and swaps (R19 to R21) -/

theorem doneToIdle_get (s : State) (g : GroupId) : (doneToIdle s).groups[g] =
    if s.groups[g].state = .done then { s.groups[g] with state := .idle } else s.groups[g] := by
  unfold doneToIdle
  exact ofFn_get _ g

theorem swapBanks_group (s : State) (g : GroupId) : (swapBanks s).groups[g] =
    if s.banks.touchedGroups[g] then resetTouchedGroup s.banks.shadow.groups[g] s.groups[g] else s.groups[g] := by
  unfold swapBanks
  exact ofFn_get _ g

theorem swapBanks_stream (s : State) (i : StreamId) : (swapBanks s).streams[i] =
    if s.banks.touchedStreams[i] then { s.streams[i] with lastSeq := none } else s.streams[i] := by
  unfold swapBanks
  exact ofFn_get _ i

/-- The accumulators at the entry into a new period: DONE returns to IDLE, after any swap. -/
theorem enterPeriod_get (k : BoundaryKind) (s : State) (g : GroupId) : (enterPeriod k s).groups[g] =
    if (afterSwap s).groups[g].state = .done then { (afterSwap s).groups[g] with state := .idle }
    else (afterSwap s).groups[g] := by
  unfold enterPeriod
  exact doneToIdle_get _ g

/-! ### A SYNC taken (R134) -/

/-- What TF does with a SYNC, by its state and the tolerance. -/
theorem actOnSync_cases (n : Half) (d : Int) (s : State) :
    (s.tf.state = .free ∧ actOnSync n d s = s) ∨
    (s.tf.state = .acquire ∧ actOnSync n d s = askForStep n s) ∨
    ((s.tf.state = .locked ∨ s.tf.state = .holdover) ∧ inTolerance s.part d = true ∧
      actOnSync n d s = followSync n d s) ∨
    (s.tf.state = .locked ∧ inTolerance s.part d = false ∧ actOnSync n d s = missSync s) ∨
    (s.tf.state = .holdover ∧ inTolerance s.part d = false ∧ actOnSync n d s = refuseSync s) := by
  unfold actOnSync
  rcases hs : s.tf.state with _ | _ | _ | _ <;> rcases ht : inTolerance s.part d with _ | _ <;> simp_all

/-- TF with the first SYNC taken off: the offset recorded, the rest still to take. -/
theorem takeSync_cases (s : State) :
    (s.tf.handed = [] ∧ takeSync s = s) ∨ ∃ n rest, s.tf.handed = n :: rest ∧
      takeSync s = actOnSync n (syncOffset s.pt.tick s.pt.len)
        (s.modTf (fun f => { recordSync (syncOffset s.pt.tick s.pt.len) f with handed := rest })) := by
  unfold takeSync
  split
  · rename_i h; exact Or.inl ⟨h, rfl⟩
  · rename_i n rest h; exact Or.inr ⟨n, rest, h, rfl⟩

/-- Taking a SYNC touches PT, TF and the notices alone. -/
@[simp] theorem takeSync_frame (s : State) :
    (takeSync s).groups = s.groups ∧ (takeSync s).streams = s.streams ∧ (takeSync s).pool = s.pool ∧
    (takeSync s).ports = s.ports ∧ (takeSync s).banks = s.banks ∧ (takeSync s).pending = s.pending := by
  rcases takeSync_cases s with ⟨-, e⟩ | ⟨n, rest, -, e⟩ <;> rw [e]
  · exact ⟨rfl, rfl, rfl, rfl, rfl, rfl⟩
  · rcases actOnSync_cases n (syncOffset s.pt.tick s.pt.len)
      (s.modTf (fun f => { recordSync (syncOffset s.pt.tick s.pt.len) f with handed := rest })) with
      ⟨-, e⟩ | ⟨-, e⟩ | ⟨-, -, e⟩ | ⟨-, -, e⟩ | ⟨-, -, e⟩ <;> rw [e] <;> simp

/-- TF's part of a SYNC_TAKEN: a SYNC is taken, or one of a step's commands leaves TF as it is. -/
theorem takeSyncFirst_cases (closes : ForcedCloses) (s : State) :
    ((closes = .sync ∨ s.pt.stepRequest = none) ∧ takeSyncFirst closes s = takeSync s) ∨
    (closes ≠ .sync ∧ s.pt.stepRequest ≠ none ∧ takeSyncFirst closes s = s) := by
  unfold takeSyncFirst
  split
  · exact Or.inl ⟨Or.inl rfl, rfl⟩
  all_goals
    split
    · rename_i h; exact Or.inl ⟨Or.inr h, rfl⟩
    · rename_i h; exact Or.inr ⟨nofun, h, rfl⟩

@[simp] theorem takeSyncFirst_frame (closes : ForcedCloses) (s : State) :
    (takeSyncFirst closes s).groups = s.groups ∧ (takeSyncFirst closes s).streams = s.streams ∧
    (takeSyncFirst closes s).pool = s.pool ∧ (takeSyncFirst closes s).ports = s.ports ∧
    (takeSyncFirst closes s).banks = s.banks ∧ (takeSyncFirst closes s).pending = s.pending := by
  rcases takeSyncFirst_cases closes s with ⟨-, e⟩ | ⟨-, -, e⟩ <;> rw [e]
  · exact takeSync_frame s
  · exact ⟨rfl, rfl, rfl, rfl, rfl, rfl⟩

/-- PT carries on a step: nothing of it, forced closes alone, or all of them and the step, which no SYNC that the swap
would divert otherwise awaits. -/
theorem carryStep_cases (closes : ForcedCloses) (sch : List BoundaryAct) (s : State) :
    ((s.pt.stepRequest = none ∨ closes = .sync) ∧ carryStep closes sch s = s) ∨
    (∃ l, s.pt.stepRequest ≠ none ∧ carryStep closes sch s = forceCloses l s ∧
      (closes = .only l ∨ ∃ first, closes = .all first ∧ l = first ++ allGroups ∧ swapMovesTiming s = true ∧
        s.tf.handed ≠ [])) ∨
    (∃ n first, s.pt.stepRequest = some n ∧ closes = .all first ∧ (swapMovesTiming s = true → s.tf.handed = []) ∧
      carryStep closes sch s = takeBoundary (.step n) sch (forceCloses (first ++ allGroups) s)) := by
  unfold carryStep
  split
  · rename_i h; exact Or.inl ⟨Or.inl h, rfl⟩
  · rename_i n h
    have hn : s.pt.stepRequest ≠ none := by rw [h]; nofun
    split
    · exact Or.inl ⟨Or.inr rfl, rfl⟩
    · exact Or.inr (Or.inl ⟨_, hn, rfl, Or.inl rfl⟩)
    · rename_i first
      dsimp only
      split
      · rename_i hw
        simp only [stepWaits, Bool.and_eq_true, Bool.not_eq_true', List.isEmpty_eq_false_iff] at hw
        exact Or.inr (Or.inl ⟨_, hn, rfl, Or.inr ⟨_, rfl, rfl, hw⟩⟩)
      · rename_i hw
        refine Or.inr (Or.inr ⟨n, first, h, rfl, fun hm => ?_, rfl⟩)
        simpa [stepWaits, hm] using hw

end Sys2Proof.Machine
end

