-- ==== Sys2Proof/Laws/Formats.lean ====
section
/-!
SUPPORT. Reading back what the part builds: bytes, numbers and the check of a built cell (R189, R191).
-/

namespace Sys2Proof.Machine

@[simp] theorem buildCell_toList (l : List Byte) :
    (buildCell l).toList = fitBytes 60 l ++ fitBytes 4 (be32 (crc32 (fitBytes 60 l))) := by
  simp [buildCell, Vector.toList]

/-- A byte of a built cell below the check. -/
theorem cellByte_buildCell (l : List Byte) {i : Nat} (h : i < 60) : cellByte (buildCell l) i = l.getD i 0 := by
  unfold cellByte
  rw [buildCell_toList, List.getD_append _ _ _ _ (by rw [fitBytes_length]; exact h)]
  unfold fitBytes
  rw [List.getD_eq_getElem?_getD, List.getElem?_take_of_lt h, List.getD_eq_getElem?_getD]
  by_cases hi : i < l.length
  · rw [List.getElem?_append_left hi]
  · rw [List.getElem?_append_right (by omega), List.getElem?_replicate, List.getElem?_eq_none (by omega)]
    split <;> rfl

/-- A two-byte number reads back. -/
theorem be16_join (x : Half) : (be16 x).getD 0 0 ++ (be16 x).getD 1 0 = x := by
  simp only [be16, List.getD_cons_zero, List.getD_cons_succ]
  ext i hi
  simp only [BitVec.getElem_append, BitVec.getElem_extractLsb']
  split
  · simp [BitVec.getLsbD_eq_getElem hi]
  · rw [← BitVec.getLsbD_eq_getElem hi]; congr 1; omega

/-- A four-byte number is its two halves. -/
theorem word_join (x : BitVec 32) : (x.extractLsb' 16 16 ++ x.extractLsb' 0 16 : BitVec 32) = x := by
  apply BitVec.eq_of_getLsbD_eq
  intro i hi
  simp only [BitVec.getLsbD_append, BitVec.getLsbD_extractLsb']
  split
  · rename_i h; simp [h]
  · rename_i h
    rw [show 16 + (i - 16) = i by omega]
    simp [show i - 16 < 16 by omega]

/-- The check of a built cell is good. -/
theorem checkGood_buildCell (l : List Byte) : checkGood (buildCell l) = true := by
  unfold checkGood cellCheck
  have ht : (buildCell l).toList.take 60 = fitBytes 60 l := by
    rw [buildCell_toList, List.take_append_of_le_length (by rw [fitBytes_length]), List.take_of_length_le
      (by rw [fitBytes_length])]
  rw [ht, beq_iff_eq]
  generalize hx : crc32 (fitBytes 60 l) = x
  have hb : ∀ i, i < 4 → cellByte (buildCell l) (60 + i) = (be32 x).getD i 0 := by
    intro i hi
    unfold cellByte
    rw [buildCell_toList, hx, List.getD_append_right _ _ _ _ (by rw [fitBytes_length]; omega), fitBytes_length,
      Nat.add_sub_cancel_left]
    unfold fitBytes
    rw [List.getD_eq_getElem?_getD, List.getElem?_take_of_lt hi, List.getElem?_append_left (by simp [be32, be16]; omega),
      List.getD_eq_getElem?_getD]
  unfold cellWord cellHalf
  rw [show (60 : Nat) + 2 + 1 = 60 + 3 from rfl, show (60 : Nat) = 60 + 0 from rfl, hb 0 (by omega), hb 1 (by omega),
    hb 2 (by omega), hb 3 (by omega)]
  have e : ∀ y z : Half, (be16 y ++ be16 z).getD 0 0 = (be16 y).getD 0 0 ∧
      (be16 y ++ be16 z).getD 1 0 = (be16 y).getD 1 0 ∧ (be16 y ++ be16 z).getD 2 0 = (be16 z).getD 0 0 ∧
      (be16 y ++ be16 z).getD 3 0 = (be16 z).getD 1 0 := fun y z => ⟨rfl, rfl, rfl, rfl⟩
  rw [be32, (e _ _).1, (e _ _).2.1, (e _ _).2.2.1, (e _ _).2.2.2, be16_join, be16_join, word_join]

end Sys2Proof.Machine
end

