-- ==== Sys2Proof/Laws/Requests.lean ====
section
/-!
SUPPORT. What the processing of one request can do (R164, R165), and what each request's body leaves alone.
-/

namespace Sys2Proof.Machine

@[simp] theorem fromHolder_renewClaim (q : Request) (s : State) : fromHolder q (renewClaim q s) = fromHolder q s := by
  simp [fromHolder]

theorem fromHolder_iff (q : Request) (s : State) :
    fromHolder q s = true ↔ s.me.claim.holder = some (controllerTag q) := by
  simp [fromHolder]

/-- The claim record after step 2 of R165 (R168). -/
theorem renewClaim_claim (q : Request) (s : State) :
    (renewClaim q s).me.claim =
      if s.me.claim.holder = some (controllerTag q) then
        { s.me.claim with port := q.port, lease := s.part.leaseLen }
      else s.me.claim := by
  unfold renewClaim
  simp only [fromHolder, beq_iff_eq]
  split <;> simp

/-- The answers that are not the body's: BAD_REQUEST for no name, NOT_OWNER for a reserved request (R165). -/
theorem decideRequest_cases (name : Option RequestName) (body : Request → State → Answer) (q : Request) (s : State) :
    (name = none ∧ decideRequest name body q s = refuse .badRequest s) ∨
    (∃ n, name = some n ∧ reservedToHolder n = true ∧ fromHolder q s = false ∧
      decideRequest name body q s = refuse .notOwner s) ∨
    (∃ n, name = some n ∧ (reservedToHolder n = false ∨ fromHolder q s = true) ∧
      decideRequest name body q s = body q s) := by
  unfold decideRequest
  split
  · exact Or.inl ⟨rfl, rfl⟩
  · rename_i n
    split
    · rename_i h
      simp only [Bool.and_eq_true, Bool.not_eq_eq_eq_not, Bool.not_true] at h
      exact Or.inr (Or.inl ⟨n, rfl, h.1, h.2, rfl⟩)
    · rename_i h
      refine Or.inr (Or.inr ⟨n, rfl, ?_, rfl⟩)
      by_cases hr : reservedToHolder n = true
      · right
        by_contra hf
        exact h (by simp [hr, hf])
      · exact Or.inl (by simpa using hr)

/-- All that the processing of one request can do: BAD_FIELD for tag 0, the cached answer of a duplicate, or a fresh
decision with its response and its place in the cache (R165, R166, R173, R174). -/
theorem processRequest_cases (r : RespId) (name : Option RequestName) (body : Request → State → Answer) (q : Request)
    (s : State) :
    (controllerTag q = 0 ∧ processRequest r name body q s = respond r q (requestCode q) .badField [] s) ∨
    (controllerTag q ≠ 0 ∧ ∃ e, fromHolder q s = true ∧ s.me.cache = some e ∧ e.transactionTag = transactionTag q ∧
      processRequest r name body q s = respond r q e.code e.status e.data (renewClaim q s)) ∨
    (controllerTag q ≠ 0 ∧
      (∀ e, fromHolder q s = true → s.me.cache = some e → e.transactionTag ≠ transactionTag q) ∧
      processRequest r name body q s = answerFresh r name body q (renewClaim q s)) := by
  unfold processRequest
  split
  · rename_i h
    exact Or.inl ⟨h, rfl⟩
  · rename_i h
    dsimp only
    split
    · rename_i e he
      simp only [cachedAnswer, fromHolder_renewClaim] at he
      split at he
      · rename_i hf
        rw [Option.filter_eq_some_iff] at he
        exact Or.inr (Or.inl ⟨h, e, hf, by simpa using he.1, by simpa using he.2, rfl⟩)
      · simp at he
    · rename_i he
      refine Or.inr (Or.inr ⟨h, fun e hf hc hx => ?_, rfl⟩)
      simp only [cachedAnswer, fromHolder_renewClaim, hf, if_true] at he
      have : (renewClaim q s).me.cache = some e := by simpa using hc
      rw [this] at he
      simp [hx] at he

/-- What a fresh answer leaves as the deciding block has left it: all but one slot, one port and the cache. -/
@[simp] theorem answerFresh_frame (r : RespId) (name : Option RequestName) (body : Request → State → Answer) (q : Request)
    (s : State) :
    (answerFresh r name body q s).pt = (decideRequest name body q s).state.pt ∧
    (answerFresh r name body q s).tf = (decideRequest name body q s).state.tf ∧
    (answerFresh r name body q s).groups = (decideRequest name body q s).state.groups ∧
    (answerFresh r name body q s).streams = (decideRequest name body q s).state.streams ∧
    (answerFresh r name body q s).pool = (decideRequest name body q s).state.pool ∧
    (answerFresh r name body q s).banks = (decideRequest name body q s).state.banks ∧
    (answerFresh r name body q s).pending = (decideRequest name body q s).state.pending ∧
    (answerFresh r name body q s).me.requests = (decideRequest name body q s).state.me.requests ∧
    (answerFresh r name body q s).me.resetting = (decideRequest name body q s).state.me.resetting ∧
    (answerFresh r name body q s).me.claim = (decideRequest name body q s).state.me.claim ∧
    (answerFresh r name body q s).me.notices = (decideRequest name body q s).state.me.notices ∧
    (answerFresh r name body q s).me.nextNumber = (decideRequest name body q s).state.me.nextNumber ∧
    (answerFresh r name body q s).me.overflow = (decideRequest name body q s).state.me.overflow := by
  simp [answerFresh]

/-- A property of states that the answer's way out keeps holds after a request when its body keeps it: the scheme of
every proof over the twenty-one request commands. -/
theorem takeRequest_keeps (P : State → Prop) (name : Option RequestName) (body : Request → State → Answer) (s : State)
    (h0 : P s)
    (hpop : ∀ q rest, s.me.requests = q :: rest → P (s.modMe (fun m => { m with requests := rest })))
    (hrenew : ∀ q t, P t → P (renewClaim q t))
    (hrespond : ∀ r q code st data t, t.me.slots[r] = none → P t → P (respond r q code st data t))
    (hcache : ∀ q code st data t, P t → P (updateCache q code st data t))
    (hbody : ∀ q t, P t → P (body q t).state)
    (hslots : ∀ q t, (body q t).state.me.slots = t.me.slots) :
    P (takeRequest name body s) := by
  rcases takeRequest_cases name body s with h | ⟨q, rest, r, hq, hr, -, -, h⟩
  · rw [h]; exact h0
  · rw [h]
    have hp := hpop q rest hq
    have hfree : (s.modMe (fun m => { m with requests := rest })).me.slots[r] = none := by
      simpa using freeSlot?_free hr
    rcases processRequest_cases r name body q (s.modMe (fun m => { m with requests := rest })) with
      ⟨-, e⟩ | ⟨-, x, -, -, -, e⟩ | ⟨-, -, e⟩
    · rw [e]; exact hrespond _ _ _ _ _ _ hfree hp
    · rw [e]; exact hrespond _ _ _ _ _ _ (by simpa using hfree) (hrenew _ _ hp)
    · rw [e, answerFresh]
      have hr' := hrenew q _ hp
      have hfree' : (renewClaim q (s.modMe (fun m => { m with requests := rest }))).me.slots[r] = none := by
        simpa using hfree
      rcases decideRequest_cases name body q (renewClaim q (s.modMe (fun m => { m with requests := rest }))) with
        ⟨-, e⟩ | ⟨n, -, -, -, e⟩ | ⟨n, -, -, e⟩ <;> simp only [e]
      · exact hcache _ _ _ _ _ (hrespond _ _ _ _ _ _ hfree' hr')
      · exact hcache _ _ _ _ _ (hrespond _ _ _ _ _ _ hfree' hr')
      · exact hcache _ _ _ _ _ (hrespond _ _ _ _ _ _ (by rw [hslots]; exact hfree') (hbody _ _ hr'))

/-! ### The bodies -/

/-- The bodies of the reads leave the state as it is. -/
@[simp] theorem read_bodies_state (q : Request) (s : State) :
    (identifyBody q s).state = s ∧ (readStatusBody q s).state = s ∧ (readStreams q s).state = s ∧
    (readGroups q s).state = s ∧ (readPartRecord q s).state = s ∧ (readGroupStateBody q s).state = s ∧
    (readPortCountersBody q s).state = s ∧ (readStreamCountersBody q s).state = s ∧
    (readGroupCountersBody q s).state = s ∧ (readTimingBody q s).state = s := by
  refine ⟨rfl, rfl, ?_, ?_, ?_, ?_, ?_, ?_, ?_, rfl⟩
  · unfold readStreams; split
    · rfl
    · split
      · rfl
      · split <;> rfl
  · unfold readGroups; split
    · rfl
    · split
      · rfl
      · split <;> rfl
  · unfold readPartRecord; split <;> rfl
  · unfold readGroupStateBody; split <;> rfl
  · unfold readPortCountersBody; split
    · rfl
    · split
      · rfl
      · dsimp only; split <;> rfl
  · unfold readStreamCountersBody; split
    · rfl
    · split
      · rfl
      · dsimp only; split <;> rfl
  · unfold readGroupCountersBody; split <;> rfl

/-- TBC's decisions reach the banks alone. -/
theorem writeStreamRecord_cases (q : Request) (s : State) :
    (writeStreamRecord q s).state = s ∨ ∃ i r, s.banks.state = .idle ∧ decodeStreamRec q.cell 22 = .ok r ∧
      (writeStreamRecord q s).state = s.modBanks (putStream i r) := by
  unfold writeStreamRecord
  split
  · exact Or.inl rfl
  · rename_i h
    have hi : s.banks.state = .idle := by
      unfold shadowClosed at h; split at h <;> simp_all
    split
    · exact Or.inl rfl
    · split
      · exact Or.inl rfl
      · rename_i hd; exact Or.inr ⟨_, _, hi, hd, rfl⟩

theorem writeGroupRecord_cases (q : Request) (s : State) :
    (writeGroupRecord q s).state = s ∨ ∃ g r, s.banks.state = .idle ∧ decodeGroupRec q.cell 21 = .ok r ∧
      (writeGroupRecord q s).state = s.modBanks (putGroup g r) := by
  unfold writeGroupRecord
  split
  · exact Or.inl rfl
  · rename_i h
    have hi : s.banks.state = .idle := by
      unfold shadowClosed at h; split at h <;> simp_all
    split
    · exact Or.inl rfl
    · split
      · exact Or.inl rfl
      · rename_i hd; exact Or.inr ⟨_, _, hi, hd, rfl⟩

theorem writePartRecord_cases (q : Request) (s : State) :
    (writePartRecord q s).state = s ∨ ∃ r, s.banks.state = .idle ∧ decodePartRec q.cell 20 = .ok r ∧
      (writePartRecord q s).state = s.modBanks (putPart r) := by
  unfold writePartRecord
  split
  · exact Or.inl rfl
  · rename_i h
    have hi : s.banks.state = .idle := by
      unfold shadowClosed at h; split at h <;> simp_all
    split
    · exact Or.inl rfl
    · rename_i hd; exact Or.inr ⟨_, hi, hd, rfl⟩

theorem commitShadow_cases (s : State) :
    (commitShadow s).state = s ∨ (s.banks.state = .idle ∧ commitChecks s.banks.shadow = none ∧
      (commitShadow s).state = s.modBanks (fun b => { b with state := .armed })) := by
  unfold commitShadow
  split
  · exact Or.inl rfl
  · exact Or.inl rfl
  · rename_i h
    split
    · exact Or.inl rfl
    · rename_i hc; exact Or.inr ⟨h, hc, rfl⟩

theorem cancelCommit_cases (s : State) :
    (cancelCommit s).state = s ∨
    (s.banks.state = .armed ∧ (cancelCommit s).state = s.modBanks (fun b => { b with state := .idle })) := by
  unfold cancelCommit
  split
  · rename_i h; exact Or.inr ⟨h, rfl⟩
  · exact Or.inl rfl
  · exact Or.inl rfl

@[simp] theorem claimBody_frame (q : Request) (s : State) :
    (claimBody q s).state.pt = s.pt ∧ (claimBody q s).state.tf = s.tf ∧ (claimBody q s).state.groups = s.groups ∧
    (claimBody q s).state.streams = s.streams ∧ (claimBody q s).state.pool = s.pool ∧
    (claimBody q s).state.ports = s.ports ∧ (claimBody q s).state.banks = s.banks ∧
    (claimBody q s).state.pending = s.pending ∧ (claimBody q s).state.me.requests = s.me.requests ∧
    (claimBody q s).state.me.slots = s.me.slots ∧ (claimBody q s).state.me.resetting = s.me.resetting ∧
    (claimBody q s).state.me.nextNumber = s.me.nextNumber ∧ (claimBody q s).state.me.overflow = s.me.overflow := by
  unfold claimBody
  split
  · simp [done]
  · split <;> simp [done]

/-- Clearing counters reaches counters alone. -/
@[simp] theorem clearCountersBody_frame (q : Request) (s : State) :
    (clearCountersBody q s).state.pt = s.pt ∧ (clearCountersBody q s).state.pool = s.pool ∧
    (clearCountersBody q s).state.banks = s.banks ∧ (clearCountersBody q s).state.me = s.me ∧
    (clearCountersBody q s).state.pending = s.pending ∧ (clearCountersBody q s).state.tf.state = s.tf.state := by
  unfold clearCountersBody
  split
  · simp [done, clearAll, clearTiming]
  · unfold clearOne; split <;> simp [done, refuse, clearPort, State.countPort]
  · unfold clearOne; split <;> simp [done, refuse, clearStream, State.countStream]
  · unfold clearOne; split <;> simp [done, refuse, clearGroup, State.countGroup]
  · simp [refuse]

end Sys2Proof.Machine
end

