-- ==== Sys2Proof/Laws/Steps.lean ====
section
/-!
SUPPORT. The schemes of the proofs over all commands: a property of states that exec keeps is kept by step, and a
property of the banks is kept by every command when each of TBC's own changes keeps it.
-/

namespace Sys2Proof.Machine

/-- What every command keeps, whatever stands in the queue, every step keeps. -/
theorem step_keeps (P : State → Prop) (hp : ∀ s l, P s → P { s with pending := l })
    (he : ∀ c s t, P s → exec c s = .next t → P t) : ∀ s t, P s → step s = .next t → P t := by
  intro s t hs h
  unfold step at h
  split at h
  · cases h; exact hs
  · exact he _ _ _ (hp _ _ hs) h

theorem next_inj {s t : State} (h : (Host.Outcome.next s : Host.Outcome State Fault Refusal) = .next t) : s = t :=
  Host.Outcome.next.inj h

theorem ageCopy_banks (s : State) :
    (ageCopy s).banks = s.banks ∨ (ageCopy s).banks = { s.banks with copyAge := s.banks.copyAge + 1 } := by
  unfold ageCopy
  split
  · exact Or.inr rfl
  · exact Or.inl rfl

theorem afterSwap_banks (s : State) :
    (s.banks.state = .armed ∧ (afterSwap s).banks = { s.banks with
      active := s.banks.shadow, shadow := s.banks.active, state := .refresh, copyPos := 0, copyAge := 0 }) ∨
    (s.banks.state ≠ .armed ∧ (afterSwap s).banks = s.banks) := by
  unfold afterSwap
  split
  · rename_i h
    exact Or.inl ⟨h, (swapBanks_frame s).2.2.2.2.2.2⟩
  · rename_i h
    exact Or.inr ⟨h, rfl⟩

theorem swapMovesTiming_iff (s : State) : swapMovesTiming s = true ↔ MovesTiming s := by
  unfold swapMovesTiming MovesTiming
  simp

/-- A step waits exactly when its swap would divert otherwise a SYNC that TF has still to take (R135). -/
theorem stepWaits_iff (s : State) : stepWaits s = true ↔ MovesTiming s ∧ s.tf.handed ≠ [] := by
  unfold stepWaits
  simp [swapMovesTiming_iff]

/-- The banks after a SYNC is taken: those of the state, or those after a swap. -/
theorem execSyncTaken_banks {cl : ForcedCloses} {sch : List BoundaryAct} {s t : State}
    (h : execSyncTaken cl sch s = .next t) : t.banks = s.banks ∨ t.banks = (afterSwap s).banks := by
  cases h
  rcases carryStep_cases cl sch (takeSyncFirst cl s) with ⟨-, e⟩ | ⟨l, -, e, -⟩ | ⟨n, l, -, -, -, e⟩ <;> rw [e]
  · exact Or.inl (by simp)
  · exact Or.inl (by simp)
  · right
    rw [(takeBoundary_frame _ _ _).2.2.2.1]
    unfold afterSwap
    simp only [forceCloses_frame, takeSyncFirst_frame]
    split
    · rw [(swapBanks_frame _).2.2.2.2.2.2, (swapBanks_frame _).2.2.2.2.2.2]; simp
    · simp

/-- TBC's changes, one by one: what each of them keeps, every command keeps. -/
structure BanksKept (P : Banks → Prop) : Prop where
  powerOn : P Banks.powerOn
  softReset : ∀ b, P b → P (softResetBanks b)
  age : ∀ b, P b → P { b with copyAge := b.copyAge + 1 }
  swap : ∀ b, P b → b.state = .armed →
    P { b with active := b.shadow, shadow := b.active, state := .refresh, copyPos := 0, copyAge := 0 }
  copy : ∀ b, P b → b.state = .refresh → b.copyPos < 1089 → P (copyPosition b)
  complete : ∀ b, P b → b.state = .refresh → 1089 ≤ b.copyPos → P { b with state := .idle }
  putStream : ∀ b i r, P b → b.state = .idle → P (putStream i r b)
  putGroup : ∀ b i c k r, P b → b.state = .idle → decodeGroupRec c k = .ok r → P (putGroup i r b)
  putPart : ∀ b c k r, P b → b.state = .idle → decodePartRec c k = .ok r → P (putPart r b)
  arm : ∀ b, P b → b.state = .idle → commitChecks b.shadow = none → P { b with state := .armed }
  cancel : ∀ b, P b → b.state = .armed → P { b with state := .idle }

theorem BanksKept.ageCopy {P : Banks → Prop} (k : BanksKept P) (s : State) (h : P s.banks) : P (ageCopy s).banks := by
  rcases ageCopy_banks s with e | e <;> rw [e]
  · exact h
  · exact k.age _ h

theorem BanksKept.afterSwap {P : Banks → Prop} (k : BanksKept P) (s : State) (h : P s.banks) : P (afterSwap s).banks := by
  rcases afterSwap_banks s with ⟨ha, e⟩ | ⟨-, e⟩ <;> rw [e]
  · exact k.swap _ h ha
  · exact h

/-- The scheme over TBC: a property of the banks that each of its changes keeps is kept by every command. -/
theorem exec_keeps_banks {P : Banks → Prop} (k : BanksKept P) (c : Instr) (s t : State) (h : P s.banks)
    (he : exec c s = .next t) : P t.banks := by
  have req : ∀ name body, (∀ q t, P t.banks → P (body q t).state.banks) → (∀ q t, (body q t).state.me.slots = t.me.slots) →
      (takeRequest name body s) = t → P t.banks := by
    intro name body hb hsl e
    subst e
    refine takeRequest_keeps (fun t => P t.banks) name body s h ?_ ?_ ?_ ?_ hb hsl
    · intros; exact h
    · intros; simpa using ‹P _›
    · intros; simpa using ‹P _›
    · intros; simpa using ‹P _›
  cases c <;> simp only [exec] at he
  case powerOnReset =>
    unfold execPowerOnReset at he
    rw [Host.Outcome.next.injEq] at he
    rw [← he]
    exact k.powerOn
  case softReset =>
    unfold execSoftReset at he; split at he <;> cases he
    · rw [(softResetAll_frame s).2.2.1]; exact k.softReset _ h
    · exact h
  case tickEnd =>
    unfold execTickEnd at he; split at he <;> cases he
    · exact k.ageCopy s h
    · exact h
  case boundary =>
    unfold execBoundary at he; split at he <;> cases he
    · rw [(takeBoundary_frame _ _ _).2.2.2.1]; exact k.afterSwap _ (k.ageCopy s h)
    · exact h
  case claimExpired =>
    unfold execClaimExpired at he; split at he
    · split at he <;> cases he <;> simpa using h
    · cases he; exact h
  case syncMissing =>
    unfold execSyncMissing at he; split at he <;> cases he <;> simpa [loseLockBySilence] using h
  case refreshCopy =>
    unfold execRefreshCopy at he; split at he <;> cases he
    · rename_i hc
      have h2 : s.banks.copyPos < 1089 := hc.2
      have h3 := k.copy s.banks h hc.1 h2
      rw [State.modBanks_banks]
      exact h3
    · exact h
  case refreshComplete =>
    unfold execRefreshComplete at he; split at he <;> cases he
    · rename_i hc
      exact k.complete _ h hc.1 (Nat.le_of_not_lt hc.2)
    · exact h
  case openWindow =>
    unfold execOpenWindow at he; cases he; split <;> simpa using h
  case closeWindow =>
    unfold execCloseWindow at he; cases he; split <;> simpa using h
  case syncTaken =>
    rcases execSyncTaken_banks he with e | e <;> rw [e]
    · exact h
    · exact k.afterSwap _ h
  case signalDetected => cases he; exact h
  case signalLost =>
    unfold execSignalLost at he; dsimp only at he; split at he <;> cases he <;> simpa using h
  case aligned =>
    unfold execAligned at he; split at he <;> cases he <;> simpa [queueLink] using h
  case unaligned =>
    unfold execUnaligned at he; split at he <;> cases he <;> simpa using h
  case cellReceived =>
    unfold execCellReceived at he; split at he
    · split at he <;> cases he <;> simpa [passCheck] using h
    · cases he; exact h
  case txComplete =>
    unfold execTxComplete at he; split at he <;> cases he <;> simpa using h
  case writeStream =>
    refine req _ _ ?_ ?_ (next_inj he)
    · intro q t ht
      rcases writeStreamRecord_cases q t with e | ⟨i, r, hi, hd, e⟩ <;> rw [e]
      · exact ht
      · exact k.putStream _ _ _ ht hi
    · intro q t
      rcases writeStreamRecord_cases q t with e | ⟨i, r, hi, hd, e⟩ <;> simp [e]
  case writeGroup =>
    refine req _ _ ?_ ?_ (next_inj he)
    · intro q t ht
      rcases writeGroupRecord_cases q t with e | ⟨i, r, hi, hd, e⟩ <;> rw [e]
      · exact ht
      · exact k.putGroup _ _ _ _ _ ht hi hd
    · intro q t
      rcases writeGroupRecord_cases q t with e | ⟨i, r, hi, hd, e⟩ <;> simp [e]
  case writePart =>
    refine req _ _ ?_ ?_ (next_inj he)
    · intro q t ht
      rcases writePartRecord_cases q t with e | ⟨r, hi, hd, e⟩ <;> rw [e]
      · exact ht
      · exact k.putPart _ _ _ _ ht hi hd
    · intro q t
      rcases writePartRecord_cases q t with e | ⟨r, hi, hd, e⟩ <;> simp [e]
  case commit =>
    refine req _ _ ?_ ?_ (next_inj he)
    · intro q t ht
      rcases commitShadow_cases t with e | ⟨hi, hd, e⟩ <;> rw [e]
      · exact ht
      · exact k.arm _ ht hi hd
    · intro q t
      rcases commitShadow_cases t with e | ⟨hi, hd, e⟩ <;> simp [e]
  case cancel =>
    refine req _ _ ?_ ?_ (next_inj he)
    · intro q t ht
      rcases cancelCommit_cases t with e | ⟨hi, e⟩ <;> rw [e]
      · exact ht
      · exact k.cancel _ ht hi
    · intro q t
      rcases cancelCommit_cases t with e | ⟨hi, e⟩ <;> simp [e]
  all_goals
    refine req _ _ ?_ ?_ (next_inj he) <;> intros <;>
      simp_all [releaseBody, ackNoticeBody, resetBody, refuse, done]

end Sys2Proof.Machine
end

