-- ==== Sys2Proof/Tests/Slice0.lean ====
section
/-!
SUPPORT. Tests: the schedule checks refuse what they should; the check of R191 on its well-known check value; single
steps taken from the manual's worked examples.
-/

namespace Sys2Proof.Tests

open Sys2Proof.Machine

set_option Elab.async false

/-! ### Helpers -/

/-- A field of the next state a command answers. -/
def after {α : Type} (c : Instr) (s : State) (f : State → α) : Option α :=
  match exec c s with
  | .next t => some (f t)
  | .fault _ => none
  | .refused _ => none

/-- A good cell on an UP port reaches CLS. -/
theorem after_good_cell {α : Type} {x : α} (p : Port) (l : List Byte) (o : LossOrder) (s : State) (f : State → α)
    (h : s.ports[p].link = .up)
    (hx : f (classify p (buildCell l) (passCheck p s)) = x) :
    after (.cellReceived p (buildCell l) o) s f = some x := by
  simp only [after, exec, execCellReceived]
  rw [if_pos h, if_pos (checkGood_buildCell l), ← hx]

def atTick (n : Nat) (s : State) : State := s.modPt (fun p => { p with tick := n })

/-- The last tick of the period. -/
def atEnd (s : State) : State := atTick (s.pt.len - 1) s

def withPart (f : PartRec → PartRec) (s : State) : State :=
  s.modBanks (fun b => { b with active := { b.active with part := f b.active.part } })

/-- A shadow Part record, touched. -/
def withShadowPart (f : PartRec → PartRec) (s : State) : State :=
  s.modBanks (fun b => { b with shadow := { b.shadow with part := f b.shadow.part }, touchedPart := true })

def armed (s : State) : State := s.modBanks (fun b => { b with state := .armed })

def withTf (t : TimingState) (s : State) : State := s.modTf (fun f => { f with state := t })

/-- An active group record and what its accumulator is made. -/
def withGroup (g : GroupId) (r : GroupRec) (f : Accum → Accum) (s : State) : State :=
  (s.modBanks (fun b => { b with active := { b.active with groups := b.active.groups.set g.val r g.isLt } })).modGroup g f

def withStream (i : StreamId) (r : StreamRec) (s : State) : State :=
  s.modBanks (fun b => { b with active := { b.active with streams := b.active.streams.set i.val r i.isLt } })

def upPort (p : Port) (s : State) : State := s.modPort p (fun q => { q with link := .up, signal := true })

def held (tag : Half) (p : Port) (lease : Nat) (s : State) : State :=
  s.modMe (fun m => { m with claim := ⟨some tag, p, 1000, lease⟩ })

/-- A request cell for the default mgmt_id. -/
def requestCell (tag transaction code reply : Nat) (args : List Byte) : Cell :=
  buildCell (header kindRequest 0 1023 0 0 0 ++ nat16 tag ++ nat16 transaction ++ [nat8 code, 0] ++ nat16 reply ++ args)

/-- The same without the check, for the statements that do not look at it. -/
def plainCell (l : List Byte) : Cell := ⟨(fitBytes 64 l).toArray, by simp [fitBytes_length]⟩

def asking (p : Port) (c : Cell) (s : State) : State := s.modMe (fun m => { m with requests := [⟨c, p⟩] })

def dataCell (stream sequence : Nat) (l : List Int) : Cell :=
  buildCell (header kindData 0 stream (nat8 sequence) (nat8 l.length) 0 ++ l.flatMap sampleBytes)

def feed (g : GroupId) (i : Slot) (k : Fin 8) : StreamRec :=
  { StreamRec.default with action := .contribute ⟨g, i, k⟩ }

def forward (b w : BitVec 3) : StreamRec := { StreamRec.default with action := .forward ⟨b, w⟩ }

/-! ### WellFormed: a term that each check refuses -/

theorem test_standard_schedule_is_lawful : (Instr.boundary standardSchedule).wellFormed = true := by decide +kernel

/-- An action is missing. -/
theorem test_schedule_without_lease_is_refused :
    (Instr.boundary (swapActs ++ [.silent, .syncOut, .send])).wellFormed = false := by decide +kernel

/-- An action stands twice. -/
theorem test_schedule_with_two_sends_is_refused :
    (Instr.boundary (standardSchedule ++ [.send])).wellFormed = false := by decide +kernel

/-- A notice sent before COMMIT_APPLIED is queued (R125). -/
theorem test_send_before_commitApplied_is_refused :
    (Instr.boundary ([.lease, .send] ++ swapActs ++ [.silent, .syncOut])).wellFormed = false := by decide +kernel

/-- The silent check before the swap's actions (R143). -/
theorem test_silent_before_swap_is_refused :
    (Instr.syncTaken (.all []) ([.silent] ++ swapActs ++ [.lease, .syncOut, .send])).wellFormed = false := by decide +kernel

/-- SYNC cells before the ports follow port_enable (R155). -/
theorem test_syncOut_before_swap_is_refused :
    (Instr.boundary ([.syncOut] ++ swapActs ++ [.lease, .silent, .send])).wellFormed = false := by decide +kernel

/-- A notice sent before the lease is counted (R171). -/
theorem test_send_before_lease_is_refused :
    (Instr.boundary (swapActs ++ [.send, .lease, .silent, .syncOut])).wellFormed = false := by decide +kernel

/-! ### Formats -/

/-- The CRC-32 that R191 describes, on the nine characters 1 to 9: its published check value. -/
theorem test_crc_check_value : crc32 [49, 50, 51, 52, 53, 54, 55, 56, 57] = 0xCBF43926 := by decide +kernel

/-- 11.6: group 5's record as laid out in the response. -/
theorem test_group_record_bytes : (encodeGroupRec
    { GroupRec.default with
      enabled := true, openTick := 100, closeTick := 700, contributors := 4, quorum := 3 } false).take 8 =
    [1, 0, 0, 100, 2, 188, 4, 3] := by decide +kernel

/-! ### Resets and time -/

theorem test_power_on : after .powerOnReset (atTick 5 (upPort 3 State.reset))
    (fun t => (t.pt.tick, t.pt.len, t.ports[(3 : Port)].link, t.me.nextNumber)) = some (0, 1000, .down, 1) := by
  decide +kernel

/-- R187, R15: the banks and the links are kept, the first period has the length B. -/
theorem test_soft_reset : after .softReset (withPart (fun r => { r with baseLen := 900 })
    (upPort 3 (State.reset.modMe (fun m => { m with resetting := true }))))
    (fun t => (t.pt.len, t.ports[(3 : Port)].link, t.me.resetting, t.me.notices.map (·.topic))) =
    some (900, .up, false, [.startedSoft]) := by decide +kernel

theorem test_tick_end : after .tickEnd (atTick 998 State.reset) (fun t => (t.pt.tick, t.pt.period)) = some (999, 0) := by
  decide +kernel

/-- 1.8: F = 3 with the accumulator at 15 begins a long period and keeps 2. -/
theorem test_long_period : after (.boundary standardSchedule)
    (atEnd ((withPart (fun r => { r with fraction := 3 }) State.reset).modPt (fun p => { p with phase := 15 })))
    (fun t => (t.pt.len, t.pt.phase, t.pt.tick, t.pt.period)) = some (1001, 2, 0, 1) := by decide +kernel

/-- 1.9: a pending −20 of tolerance 20 on B = 70 gives 64 ticks. -/
theorem test_shortest_period : after (.boundary standardSchedule)
    (withTf .locked (atEnd ((withPart
      (fun r => { r with baseLen := 70, source := .follow, tolerance := 20 }) State.reset).modPt
      (fun p => { p with len := 70, pendingAdj := some (-20) })))) (fun t => t.pt.len) = some 64 := by decide +kernel

/-- 7.10: a boundary in ARMED swaps and queues COMMIT_APPLIED. -/
theorem test_swap : after (.boundary standardSchedule)
    (armed (withShadowPart (fun r => { r with baseLen := 1200 }) (atEnd State.reset)))
    (fun t => (t.pt.len, t.banks.state, t.banks.copyPos, t.me.notices.map (·.topic))) =
    some (1200, .refresh, 0, [.startedPowerOn, .commitApplied]) := by decide +kernel

theorem test_claim_expired : after .claimExpired (held 7 3 0 State.reset)
    (fun t => (t.me.claim.holder, t.me.notices.map (·.topic))) = some (none, [.startedPowerOn, .claimExpired 7]) := by
  decide +kernel

theorem test_sync_missing : after .syncMissing ((withTf .locked State.reset).modTf (fun f => { f with silent := 8 }))
    (fun t => (t.tf.state, t.tf.syncMissing)) = some (.holdover, 1) := by decide +kernel

/-! ### The refresh -/

def refreshing (pos : Nat) (s : State) : State := s.modBanks (fun b => { b with state := .refresh, copyPos := pos })

/-- Position 1087 is group 63. -/
theorem test_refresh_copies_group_63 : after .refreshCopy
    ((refreshing 1087 (withGroup 63 { GroupRec.default with quorum := 7 } id State.reset)).modBanks
      (fun b => { b with touchedGroups := Vector.replicate 64 true }))
    (fun t => (t.banks.shadow.groups[(63 : GroupId)].quorum, t.banks.touchedGroups[(63 : GroupId)],
      t.banks.touchedGroups[(62 : GroupId)], t.banks.copyPos)) = some (7, false, true, 1088) := by decide +kernel

theorem test_refresh_complete : after .refreshComplete (refreshing 1089 State.reset) (fun t => t.banks.state) =
    some .idle := by decide +kernel

/-! ### Windows (2.10, 3.8) -/

def group20 : GroupRec :=
  { GroupRec.default with
    enabled := true, mode := .oneShot, op := .max, openTick := 100, closeTick := 300, contributors := 2 }

def group20Idle (s : State) : State := withGroup 20 group20 (fun a => { a with state := .idle }) s

theorem test_open : after (.openWindow 20) (atTick 100 (group20Idle State.reset))
    (fun t => (t.groups[(20 : GroupId)].state, t.groups[(20 : GroupId)].result)) =
    some (.opened, .values [-8388608]) := by decide +kernel

/-- 3.8, period 70. -/
def group30 : GroupRec :=
  { enabled := true, mode := .continuous, op := .max, openTick := 100, closeTick := 700, contributors := 4, quorum := 3,
    fill := .hold, onShort := .mute, sampleCount := 2, outStream := 510, dest := ⟨0, 3⟩, notifyShort := true }

def group30Acc (a : Accum) : Accum :=
  { a with
    state := .opened, arrived := #v[some 200, some 210, some 220, none, none, none, none, none]
    result := .values [7, 15], emission := 17
    holds := #v[some [7, -20], some [3, 15], some [-1, 2], some [-4, 40], none, none, none, none] }

/-- Period 70's close: port 2 is TRAINING, port 3's DATA queue full. -/
def period70 : State :=
  ((atTick 700 (withGroup 30 group30 group30Acc (upPort 0 (upPort 1 (upPort 3 State.reset))))).modPort 2
    (fun q => { q with link := .training })).modPort 3 (fun q => { q with data := List.replicate 64 5 })

theorem test_filled_close : after (.closeWindow 30) period70 (fun t =>
    (t.groups[(30 : GroupId)].state, t.groups[(30 : GroupId)].emission, t.ports[(0 : Port)].data,
      t.ports[(3 : Port)].counters.egressDrop)) = some (.done, 18, [0], 1) := by decide +kernel

theorem test_filled_close_cell : after (.closeWindow 30) period70 (fun t =>
    let c := t.pool[(0 : BufId)].cell
    (t.pool[(0 : BufId)].refs, cellSamples c 2, (cellStreamId c).toNat, cellSequence c, cellByte c 1)) =
    some (2, [7, 40], 510, 17, 4) := by decide +kernel

/-- 3.10: the sum 22,000,000 saturates. -/
theorem test_sum_saturates : formOutput { GroupRec.default with op := .sum }
    { Accum.powerOn with result := .values [22000000] } = [8388607] := by decide +kernel

/-- 3.9, period 201: the filled slot 0 is lower than the arrived slot 2. -/
theorem test_priority_filled : formOutput
    { GroupRec.default with op := .priority, contributors := 3, fill := .hold }
    { Accum.powerOn with
      arrived := #v[none, none, some 1, none, none, none, none, none], result := .lead (some (2, [500]))
      holds := #v[some [100], none, some [500], none, none, none, none, none] } = [100] := by decide +kernel

/-! ### Following (8.11, 1.10) -/

def following (t : TimingState) (s : State) : State :=
  withTf t (withPart (fun r => { r with source := .follow, timingPort := 2 }) s)

def handed (n : Half) (s : State) : State := s.modTf (fun f => { f with handed := f.handed ++ [n] })

/-- SYNC 7001 at tick 377 of period 41 in ACQUIRE. -/
theorem test_step : after (.syncTaken (.all []) standardSchedule) (handed 7001 (atTick 377 (following .acquire State.reset)))
    (fun t => (t.pt.period, t.pt.tick, t.tf.state, t.tf.steps, t.tf.lastOffset)) =
    some (7001, 0, .locked, 1, some 377) := by decide +kernel

/-- R34, R36: the forced close alone, the step still to come. -/
theorem test_forced_close_alone : after (.syncTaken (.only [20]) standardSchedule)
    (handed 500 (atTick 260 (following .acquire (withGroup 20 group20 (fun a => { a with state := .opened }) State.reset))))
    (fun t => (t.groups[(20 : GroupId)].state, t.groups[(20 : GroupId)].counters.cut, t.pt.tick, t.pt.stepRequest)) =
    some (.spent, 1, 260, some 500) := by decide +kernel

/-- R134: two SYNCs at tick 377 in ACQUIRE; the second is taken in LOCKED, out of tolerance, before the step of the first. -/
theorem test_second_sync : after (.syncTaken .sync [])
    (takeSync (handed 7002 (handed 7001 (atTick 377 (following .acquire State.reset)))))
    (fun t => (t.tf.handed, t.tf.syncOutTol, t.pt.stepRequest, t.tf.state)) = some ([], 1, some 7001, .locked) := by
  decide +kernel

/-- R135: a step whose swap changes timing_port waits for the SYNC of the old one. -/
theorem test_step_waits : after (.syncTaken (.all []) standardSchedule)
    (armed (withShadowPart (fun r => { r with timingPort := 5 })
      (handed 7002 (handed 7001 (atTick 377 (following .acquire State.reset))))))
    (fun t => (t.pt.tick, t.pt.stepRequest, t.banks.state)) = some (377, some 7001, .armed) := by decide +kernel

/-- SYNC 7016 at tick 996 of period 7015 in HOLDOVER: −4. -/
theorem test_sync_in_tolerance : after (.syncTaken (.all []) standardSchedule)
    ((handed 7016 (atTick 996 (following .holdover State.reset))).modPt (fun p => { p with period := 7015 }))
    (fun t => (t.pt.pendingAdj, t.pt.pendingNum, t.tf.state, t.tf.numberSlip)) =
    some (some (-4), some 7016, .locked, 0) := by decide +kernel

/-! ### Ports (9.9, 6.9) -/

theorem test_signal_detected : after (.signalDetected 4) State.reset
    (fun t => (t.ports[(4 : Port)].link, t.ports[(4 : Port)].signal)) = some (.training, true) := by decide +kernel

/-- Three entries flushed: a RESPONSE, c and d (6.9, 6). -/
def port1Loaded : State :=
  (((upPort 1 State.reset).modPort 1 (fun q => { q with
      control := [.response 2], data := [2, 3], tx := .sending .control (plainCell []) })).modBuffer 2
    (fun b => { b with refs := 1 })).modBuffer 3 (fun b => { b with refs := 2 })

theorem test_signal_lost : after (.signalLost 1 .linkFirst) port1Loaded (fun t =>
    (t.ports[(1 : Port)].link, t.ports[(1 : Port)].counters.egressFlush, t.ports[(1 : Port)].counters.linkDowns,
      t.pool[(2 : BufId)].refs, t.pool[(3 : BufId)].refs)) = some (.down, 3, 1, 0, 1) := by decide +kernel

theorem test_aligned : after (.aligned 3) (State.reset.modPort 3 (fun q => { q with link := .training }))
    (fun t => (t.ports[(3 : Port)].link, t.me.notices.map (fun n => (n.topic, n.payload)))) =
    some (.up, [(.startedPowerOn, .nothing), (.link 3, .link true)]) := by decide +kernel

theorem test_unaligned : after (.unaligned 1 .timingFirst) port1Loaded (fun t =>
    (t.ports[(1 : Port)].link, t.ports[(1 : Port)].data, t.ports[(1 : Port)].tx)) = some (.training, [], .idle) := by
  decide +kernel

/-- 6.9, 4: port 1 completes b and starts the response ahead of c. -/
theorem test_control_before_data : after (.txComplete 1)
    ((port1Loaded.modPort 1 (fun q => { q with data := [1, 2, 3], tx := .sending .data (plainCell []) })).modBuffer 1
      (fun b => { b with refs := 1 }))
    (fun t => (t.ports[(1 : Port)].data, t.pool[(1 : BufId)].refs, t.ports[(1 : Port)].counters.txCells,
      match t.ports[(1 : Port)].tx with | .idle => none | .sending l _ => some l)) =
    some ([2, 3], 0, 1, some .control) := by decide +kernel

/-! ### Cells (2.9, 4.6, 5.5) -/

def group12 : GroupRec :=
  { GroupRec.default with
    enabled := true, openTick := 200, closeTick := 600, contributors := 3, quorum := 2, fill := .hold, sampleCount := 2 }

/-- 2.9 at tick 260: slot 0 has arrived. -/
def period0 : State :=
  atTick 260 (withStream 41 (feed 12 1 1) (withGroup 12 group12 (fun a => { a with
    state := .opened, result := .values [1000, -2000], arrived := #v[some 230, none, none, none, none, none, none, none] })
    (upPort 5 State.reset)))

theorem test_contribution : after (.cellReceived 5 (dataCell 41 1 [501, -7]) .linkFirst) period0 (fun t =>
    (t.groups[(12 : GroupId)].result, t.groups[(12 : GroupId)].holds[(1 : Slot)],
      t.groups[(12 : GroupId)].arrived[(1 : Slot)], t.streams[(41 : StreamId)].counters.accepted)) =
    some (.values [1250, -2004], some [250, -4], some 260, 1) :=
  after_good_cell _ _ _ _ _ (by decide +kernel) (by decide +kernel)

/-- 5.5: base 4, wildcard 3, ingress port 5, port 6 full, port 7 DOWN. -/
def fanOut : State :=
  withStream 140 (forward 4 3) ((upPort 4 (upPort 5 (upPort 6 State.reset))).modPort 6
    (fun q => { q with data := List.replicate 64 9 }))

theorem test_fan_out : after (.cellReceived 5 (dataCell 140 1 [1]) .linkFirst) fanOut (fun t =>
    (t.ports[(4 : Port)].data, t.ports[(5 : Port)].data, t.ports[(6 : Port)].counters.egressDrop,
      t.pool[(0 : BufId)].refs, freeCount t)) = some ([0], [], 1, 1, 383) :=
  after_good_cell _ _ _ _ _ (by decide +kernel) (by decide +kernel)

/-! ### Requests (7.10, 7.2, 10.4) -/

/-- The controller 7 holds the claim and asks on port 3, which is UP. -/
def holderAsks (code : Nat) (args : List Byte) (s : State) : State :=
  asking 3 (requestCell 7 100 code 1000 args) (held 7 3 50 (upPort 3 s))

/-- R164: a request that ME can take holds the tick. -/
theorem test_request_holds_the_tick : after .tickEnd (holderAsks 1 [] State.reset) (fun t => t.pt.tick) = some 0 := by
  decide +kernel

/-- R149: a SYNC handed over before a soft reset is taken after it, in ACQUIRE. -/
theorem test_soft_reset_keeps_the_sync : after .softReset
    (handed 7001 (following .locked (State.reset.modMe (fun m => { m with resetting := true }))))
    (fun t => (t.tf.handed, t.tf.state)) = some ([7001], .acquire) := by decide +kernel

/-- The status and the data of the response in slot 0. -/
def answer (t : State) : Option (Status × List Byte) := t.me.slots[(0 : RespId)].map (fun x => (x.status, x.data))

theorem test_identify : after .identify (holderAsks 1 [] State.reset) answer =
    some (some (.ok, [8, 69, 25, 8, 1, 8, 4, 0, 64, 1, 128, 3, 255])) := by decide +kernel

theorem test_claim : after .claim (asking 3 (requestCell 7 100 2 1000 []) (upPort 3 State.reset))
    (fun t => t.me.claim) = some ⟨some 7, 3, 1000, 2000⟩ := by decide +kernel

theorem test_claimed : after .claim (asking 4 (requestCell 9 100 2 1001 []) (held 7 3 50 (upPort 4 State.reset))) answer =
    some (some (.claimed, [0, 7])) := by decide +kernel

theorem test_release : after .release (holderAsks 3 [] State.reset) (fun t => (t.me.claim.holder, answer t)) =
    some (none, some (.ok, [])) := by decide +kernel

/-- Bank state 0, FREE, tick 5, period 0, 384 free, holder 7 with the lease reloaded, 1 notice, no overflow. -/
theorem test_read_status : after .readStatus (atTick 5 (holderAsks 4 [] State.reset)) answer =
    some (some (.ok, [0, 0, 0, 5, 0, 0, 1, 128, 1, 0, 7, 7, 208, 1, 0])) := by decide +kernel

theorem test_read_stream : after .readStream (holderAsks 5 [0, 1, 0, 20] State.reset) answer =
    some (some (.ok, [0, 0, 0, 0, 0, 255, 255, 255, 255, 255])) := by decide +kernel

theorem test_read_group_out_of_range : after .readGroup (holderAsks 6 [1, 2, 63] State.reset) answer =
    some (some (.badIndex, [])) := by decide +kernel

theorem test_read_part : after .readPart (holderAsks 7 [0] State.reset) answer =
    some (some (.ok, [255, 255, 0, 0, 3, 255, 3, 232, 0, 0, 8, 3, 254, 7, 208, 0, 200])) := by decide +kernel

theorem test_read_group_state : after .readGroupState (holderAsks 8 [30] period70) answer =
    some (some (.ok, [2, 7, 15, 17, 0, 200, 0, 210, 0, 220, 0, 0, 0, 0, 0, 0, 0, 0, 0, 0])) := by decide +kernel

theorem test_read_port_counters : after .readPortCounters (holderAsks 9 [8, 2] State.reset) answer =
    some (some (.badField, [])) := by decide +kernel

theorem test_read_stream_counters : after .readStreamCounters (holderAsks 10 [4, 0, 0] State.reset) answer =
    some (some (.badIndex, [])) := by decide +kernel

theorem test_read_group_counters : after .readGroupCounters
    (holderAsks 11 [3] (State.reset.countGroup 3 (fun c => { c with lost := 258 }))) answer =
    some (some (.ok, List.replicate 14 0 ++ [1, 2] ++ List.replicate 12 0)) := by decide +kernel

/-- Offset −4 in 16 bits. -/
theorem test_read_timing : after .readTiming
    (holderAsks 12 [] (State.reset.modTf (fun f => { f with state := .locked, lastOffset := some (-4) }))) answer =
    some (some (.ok, [2, 1, 255, 252] ++ List.replicate 28 0)) := by decide +kernel

/-- 7.10, step 2. -/
theorem test_write_stream : after .writeStream (holderAsks 16 [0, 23, 2, 2, 0, 0, 0, 0, 0, 5, 2, 0] State.reset)
    (fun t => (t.banks.shadow.streams[(23 : StreamId)].action, t.banks.shadow.streams[(23 : StreamId)].seqCheck,
      t.banks.touchedStreams[(23 : StreamId)])) = some (.contribute ⟨5, 2, 0⟩, true, true) := by decide +kernel

/-- 7.10, step 3: base 1 and wildcard 1. -/
theorem test_write_stream_bad_set : after .writeStream (holderAsks 16 [0, 24, 1, 0, 0, 0, 0, 1, 1, 0, 0, 0] State.reset)
    answer = some (some (.badSet, [])) := by decide +kernel

theorem test_write_group : after .writeGroup (holderAsks 17 [5, 1, 0, 0, 100, 2, 188, 4, 3, 1, 0, 0, 0, 0] State.reset)
    (fun t => (t.banks.shadow.groups[(5 : GroupId)].contributors, t.banks.shadow.groups[(5 : GroupId)].closeTick,
      t.banks.touchedGroups[(5 : GroupId)])) = some (4, 700, true) := by decide +kernel

theorem test_write_part : after .writePart
    (holderAsks 18 [255, 255, 32, 1, 3, 255, 3, 232, 0, 2, 8, 3, 254, 7, 208, 0, 200] State.reset)
    (fun t => (t.banks.shadow.part, t.banks.touchedPart)) =
    some ({ PartRec.default with source := .follow, timingPort := 2, syncOut := 32 }, true) := by decide +kernel

/-- 7.10, step 4: streams 22 and 23 both name group 5, slot 2. -/
def twice : State :=
  State.reset.modBanks (fun b => { b with shadow := { b.shadow with
    groups := b.shadow.groups.set 5 { GroupRec.default with contributors := 4 }
    streams := (b.shadow.streams.set 22 (feed 5 2 0)).set 23 (feed 5 2 0) } })

theorem test_commit_slot_taken : after .commit (holderAsks 19 [] twice) (fun t => (t.banks.state, answer t)) =
    some (.idle, some (.checkFailed, [3, 0, 23])) := by decide +kernel

theorem test_commit_arms : after .commit (holderAsks 19 [] State.reset) (fun t => (t.banks.state, answer t)) =
    some (.armed, some (.ok, [])) := by decide +kernel

theorem test_cancel : after .cancel (holderAsks 20 [] (armed State.reset)) (fun t => (t.banks.state, answer t)) =
    some (.idle, some (.ok, [])) := by decide +kernel

theorem test_clear_counters : after .clearCounters (holderAsks 21 [1, 0, 7]
    ((State.reset.countPort 7 (fun c => { c with rxCells := 9 })).countPort 6 (fun c => { c with rxCells := 9 })))
    (fun t => (t.ports[(7 : Port)].counters.rxCells, t.ports[(6 : Port)].counters.rxCells, answer t)) =
    some (0, 9, some (.ok, [])) := by decide +kernel

theorem test_ack_notice : after .ackNotice (holderAsks 22 [0, 0] State.reset) (fun t => (t.me.notices, answer t)) =
    some ([], some (.ok, [1])) := by decide +kernel

theorem test_reset : after .reset (holderAsks 23 [] State.reset) (fun t => (t.me.resetting, answer t)) =
    some (true, some (.ok, [])) := by decide +kernel

theorem test_bad_request : after .badRequest (holderAsks 13 [] State.reset) answer = some (some (.badRequest, [])) := by
  decide +kernel

end Sys2Proof.Tests
end

