-- ==== Sys2Proof/Tests/Witnesses.lean ====
section
/-!
SUPPORT. For each obligation with hypotheses, states and operands that meet them, at the bounds of its clauses.
-/

namespace Sys2Proof.Tests

open Sys2Proof.Machine

set_option Elab.async false

/-- A step asked for. -/
def asked (n : Half) (s : State) : State := s.modPt (fun p => { p with stepRequest := some n })

/-- A boundary begins a period in `s`, and a step does in `asked 9 s`, which differs from `s` in that request alone. -/
def BothBegin (s : State) : Prop := ∀ sch, Begins (.boundary sch) sch s ∧ Begins (.syncTaken (.all []) sch) sch (asked 9 s)

theorem bothBegin {s : State} (h : tickMayEnd s = true ∧ s.pt.len ≤ s.pt.tick + 1 ∧ s.tf.handed = [] ∧
    ∀ g : GroupId, s.groups[g].state ≠ .opened) : BothBegin s :=
  fun _ => ⟨.inl ⟨rfl, h.1, h.2.1⟩, .inr ⟨[], rfl, nofun, fun _ => h.2.2.1, h.2.2.2⟩⟩

theorem witness_emptyQueueIdles : State.reset.pending = [] := rfl

def resettingState (f : BankState) (x : Source) : State :=
  ((withPart (fun r => { r with source := x }) (withGroup 3 { GroupRec.default with enabled := true } id State.reset)).modMe
    (fun m => { m with resetting := true })).modBanks (fun b => { b with state := f })

theorem no_reset_response {s : State} (h : ∀ r : RespId, s.me.slots[r] = none) :
    ∀ (r : RespId) x, s.me.slots[r] = some x → ¬ (x.code = 23 ∧ x.status = .ok) := by
  intro r x hx
  rw [h r] at hx
  cases hx

/-- Both sources, every bank state, an enabled and a disabled group. -/
theorem witness_softResetValues : ∀ f ∈ [BankState.idle, .armed, .refresh], ∀ x ∈ [Source.free, .follow],
    let s := resettingState f x
    s.me.resetting = true ∧
    (∀ (r : RespId) y, s.me.slots[r] = some y → ¬ (y.code = 23 ∧ y.status = .ok)) ∧
    s.banks.active.part.source = x ∧ s.banks.state = f ∧ s.banks.active.groups[(3 : GroupId)].enabled = true ∧
    s.banks.active.groups[(4 : GroupId)].enabled = false := by
  intro f hf x hx
  simp only [List.mem_cons, List.not_mem_nil, or_false] at hf hx
  rcases hf with rfl | rfl | rfl <;> rcases hx with rfl | rfl <;>
    exact ⟨rfl, no_reset_response (by decide +kernel), by decide +kernel⟩

theorem tick_steps (s : State) : ∃ t, step { s with pending := [.tickEnd] } = .next t := by
  simp only [step, exec, execTickEnd]
  split <;> exact ⟨_, rfl⟩

/-- 2.9 at tick 260 with a tick to end: a group is OPEN. -/
def midWindow : State := { period0 with pending := [.tickEnd] }

theorem witness_stepsKeepTheSchedule : ScheduleInv midWindow ∧ midWindow.groups[(12 : GroupId)].state = .opened ∧
    ∃ t, step midWindow = .next t := by
  refine ⟨?_, by decide +kernel, tick_steps _⟩
  unfold ScheduleInv Bank.legal PartRec.legal GroupRec.legal Dest.legal Bank.windowsFit PartRec.margin
  decide +kernel

/-- In FOLLOW, in REFRESH with the copy among the groups, one touched mark left. -/
def midRefresh : State :=
  { ((refreshing 1030 (following .acquire State.reset)).modBanks (fun b => { b with
      shadow := { b.shadow with part := b.active.part }
      touchedGroups := b.touchedGroups.set 6 true })) with pending := [.tickEnd] }

theorem midRefresh_banks : BanksInv midRefresh := by
  refine ⟨fun i _ => rfl, fun g _ => rfl, fun _ => rfl, fun _ => ⟨fun i _ => ?_, ?_, fun h => ?_⟩⟩
  · show (Vector.replicate 1024 false)[i] = false
    simp
  · decide +kernel
  · exact absurd h (by decide +kernel)

theorem witness_stepsKeepTheTimingState : TimingInv midRefresh ∧ ∃ t, step midRefresh = .next t :=
  ⟨⟨midRefresh_banks, by decide +kernel, by decide +kernel, fun _ => rfl⟩, tick_steps _⟩

theorem witness_stepsKeepTheGroups : GroupsInv midRefresh ∧ ∃ t, step midRefresh = .next t :=
  ⟨⟨midRefresh_banks, by decide +kernel⟩, tick_steps _⟩

/-- Port 1 UP with the entries of 6.9, slot 2 and the buffers counted. -/
def loaded : State :=
  { (port1Loaded.modBuffer 3 (fun b => { b with refs := 1 })).modMe (fun m => { m with
      slots := m.slots.set 2 (some ⟨1000, 7, 100, 4, .ok, [], 1, 0⟩) }) with pending := [.tickEnd] }

theorem witness_stepsKeepTheLinks : LinkInv loaded ∧ ∃ t, step loaded = .next t := by
  refine ⟨?_, tick_steps _⟩
  unfold LinkInv
  decide +kernel

theorem witness_stepsKeepTheQueues : QueuesInv loaded ∧ ∃ t, step loaded = .next t := by
  refine ⟨⟨by decide +kernel, by decide +kernel, fun p => ⟨?_, ?_, ?_, ?_, ?_⟩⟩, tick_steps _⟩
  · revert p; decide +kernel
  · revert p; decide +kernel
  · revert p; decide +kernel
  · intro c _
    have h : ∀ p : Port, loaded.ports[p].tx = .idle ∨ loaded.ports[p].control ≠ [] := by decide +kernel
    rcases h p with h | h <;> simp_all
  · intro c _
    have h : ∀ p : Port, loaded.ports[p].tx = .idle ∨ loaded.ports[p].data ≠ [] := by decide +kernel
    rcases h p with h | h <;> simp_all

/-- Three notices, one with the greatest age and repeat count. -/
def noticed : State :=
  { State.reset.modMe (fun m => { m with
      notices := [⟨0, .startedPowerOn, .nothing, 1, none⟩, ⟨1, .poolEmpty, .nothing, 255, some 65535⟩,
        ⟨2, .link 3, .link true, 2, some 0⟩] }) with pending := [.tickEnd] }

theorem witness_stepsKeepManagement : ManagementInv noticed ∧ ∃ t, step noticed = .next t := by
  have h : noticed.me.requests.length ≤ 4 ∧ (noticed.me.claim.holder = none → noticed.me.cache = none) ∧
    noticed.me.notices.length ≤ 16 ∧ (noticed.me.notices.map (·.topic)).Nodup := by decide +kernel
  refine ⟨⟨h.1, h.2.1, h.2.2.1, h.2.2.2, ?_⟩, tick_steps _⟩
  intro n hn
  simp only [noticed, State.modMe, List.mem_cons, List.not_mem_nil, or_false] at hn
  rcases hn with rfl | rfl | rfl <;> simp

/-- Records at the edges of their ranges. -/
def edgeStream : StreamRec :=
  { action := .both ⟨2, 5⟩ ⟨63, 7, 7⟩, echo := .allow, rename := some 1023, guard := some 7, seqCheck := true }

def edgeGroup : GroupRec :=
  { enabled := true, mode := .oneShot, op := .priority, openTick := 16382, closeTick := 16383, contributors := 8,
    quorum := 8, fill := .hold, onShort := .mute, sampleCount := 16, outStream := 1023, dest := ⟨7, 0⟩,
    notifyShort := true }

def edgePart : PartRec :=
  { mgmtId := 1023, mgmtPorts := 255, portEnable := 0, baseLen := 16383, fraction := 15, source := .follow,
    timingPort := 7, tolerance := 63, syncOut := 255, syncId := 0, leaseLen := 65535, resend := 65535 }

theorem witness_recordsDecodeAsEncoded (m : Bool) :
    edgeStream.action.legal ∧
    (∀ i, i < 10 → cellByte (plainCell (encodeStreamRec edgeStream m)) (0 + i) = (encodeStreamRec edgeStream m).getD i 0) ∧
    edgeGroup.legal ∧
    (∀ i, i < 13 → cellByte (plainCell (encodeGroupRec edgeGroup m)) (0 + i) = (encodeGroupRec edgeGroup m).getD i 0) ∧
    edgePart.legal ∧
    (∀ i, i < 17 → cellByte (plainCell (encodePartRec edgePart m)) (0 + i) = (encodePartRec edgePart m).getD i 0) := by
  refine ⟨(by decide : (2 : BitVec 3) &&& 5 = 0), ?_, by unfold GroupRec.legal Dest.legal; decide +kernel, ?_,
    by unfold PartRec.legal; decide +kernel, ?_⟩ <;> revert m <;> decide +kernel

/-- A REFRESH one tick within its bound, and no refresh. -/
theorem witness_tickEndAdvances :
    (let s := (refreshing 5 (atTick 998 State.reset)).modBanks (fun b => { b with copyAge := 79 })
     tickMayEnd s = true ∧ s.pt.tick + 1 < s.pt.len ∧ s.banks.state = .refresh) ∧
    (let s := atTick 998 State.reset
     tickMayEnd s = true ∧ s.pt.tick + 1 < s.pt.len ∧ s.banks.state ≠ .refresh) := by decide +kernel

theorem due {s : State} (h : tickMayEnd s = true) (k : s.pt.len ≤ s.pt.tick + 1) : BoundaryDue s := ⟨h, k⟩

/-- The accumulator's sum at 15 and at 16; both kinds of boundary; a step asked for, and a SYNC that will ask for one. -/
theorem witness_phaseAccumulates : ∀ k ∈ [12, 13],
    (let s := atEnd ((withPart (fun r => { r with fraction := 3 }) State.reset).modPt (fun p => { p with phase := k }))
     s.pt.phase ≤ 15 ∧ s.nextPart.fraction ≤ 15 ∧ BoundaryDue s ∧ s.pt.phase + s.nextPart.fraction = k + 3 ∧
     ¬ (s.pt.pendingAdj ≠ none ∧ s.nextPart.source = .follow) ∧ (asked 9 s).pt.stepRequest ≠ none ∧
     (asked 9 s).tf.handed = []) ∧
    (let s := handed 9 (following .acquire ((withPart (fun r => { r with fraction := 3 }) State.reset).modPt
       (fun p => { p with phase := k })))
     s.pt.phase ≤ 15 ∧ s.nextPart.fraction ≤ 15 ∧ s.tf.handed = [9] ∧ s.tf.state = .acquire ∧ s.pt.stepRequest = none ∧
     s.pt.phase + s.nextPart.fraction = k + 3) := by
  unfold BoundaryDue
  decide +kernel

/-- The last tick without a pending number; in FOLLOW with one and an adjustment beyond the tolerance; a step asked for. -/
theorem witness_boundaryBeginsThePeriod :
    (BoundaryDue (atEnd State.reset) ∧ (atEnd State.reset).pt.pendingNum = none ∧
      (atEnd State.reset).pt.pendingAdj = none ∧ (atEnd State.reset).nextPart.source = .free) ∧
    (let s := (atEnd (following .locked State.reset)).modPt (fun p => { p with pendingAdj := some (-9), pendingNum := some 7 })
     BoundaryDue s ∧ s.pt.pendingNum = some 7 ∧ s.pt.pendingAdj = some (-9) ∧ s.nextPart.source = .follow) ∧
    (asked 500 State.reset).pt.stepRequest = some 500 ∧ (asked 500 State.reset).tf.handed = [] := by
  unfold BoundaryDue
  decide +kernel

/-- A DONE group, an OFF one. -/
def doneGroup : State :=
  atEnd (withGroup 12 group12 (fun a => { a with state := .done }) State.reset)

theorem witness_boundaryWithoutSwapFrame : BothBegin doneGroup ∧ doneGroup.banks.state ≠ .armed ∧
    doneGroup.groups[(12 : GroupId)].state = .done ∧ doneGroup.groups[(13 : GroupId)].state ≠ .done :=
  ⟨bothBegin (by decide +kernel), by decide +kernel⟩

/-- A notice queue of 16, none of them for a boundary. -/
def fullQueue (s : State) : State :=
  s.modMe (fun m => { m with notices := (List.finRange 16).map (fun i =>
    ⟨BitVec.ofNat 16 i.val, .groupLost ⟨i.val, by omega⟩, .nothing, 1, none⟩) })

/-- Armed with a touched enabled group 12 (DONE), a touched disabled group 13, a touched stream 23. -/
def armedEdit : State :=
  armed (doneGroup.modBanks (fun b => { b with
    shadow := { b.shadow with groups := b.shadow.groups.set 12 { group12 with quorum := 1 } }
    touchedGroups := (b.touchedGroups.set 12 true).set 13 true
    touchedStreams := b.touchedStreams.set 23 true }))

theorem witness_boundarySwapsArmedBanks : BothBegin armedEdit ∧ BothBegin (fullQueue armedEdit) ∧
    (fullQueue armedEdit).banks.state = .armed ∧ (fullQueue armedEdit).me.notices.length = 16 ∧ armedEdit.banks.state = .armed ∧
    armedEdit.banks.touchedGroups[(12 : GroupId)] = true ∧ armedEdit.banks.touchedGroups[(13 : GroupId)] = true ∧
    armedEdit.banks.touchedGroups[(14 : GroupId)] = false ∧
    armedEdit.banks.shadow.groups[(12 : GroupId)].enabled = true ∧
    armedEdit.banks.shadow.groups[(13 : GroupId)].enabled = false ∧
    armedEdit.banks.touchedStreams[(23 : StreamId)] = true ∧ armedEdit.banks.touchedStreams[(24 : StreamId)] = false ∧
    armedEdit.me.notices.length ≤ 5 :=
  ⟨bothBegin (by decide +kernel), bothBegin (by decide +kernel), by decide +kernel⟩

/-- Ports 0 (UP, with a response and two buffers) and 1 (TRAINING) leave port_enable, port 7 joins it with a
signal, port 6 without one. -/
def portEdit : State :=
  armed (withShadowPart (fun r => { r with portEnable := 0xFC })
    (withPart (fun r => { r with portEnable := 0x3F }) (atEnd ((((upPort 0 State.reset).modPort 1
      (fun q => { q with link := .training, signal := true })).modPort 7 (fun q => { q with signal := true })).modPort 0
      (fun q => { q with control := [.response 2], data := [2, 3] })))))

theorem witness_swapFollowsPortEnable : BothBegin portEdit ∧ portEdit.banks.state = .armed ∧
    (∀ p ∈ ([0, 1] : List Port), inPortList portEdit.banks.active.part.portEnable p = true ∧
      inPortList portEdit.banks.shadow.part.portEnable p = false) ∧
    SwapDrops portEdit 0 ∧ (∀ p : Port, p ∈ ([0] : List Port) ↔ SwapDrops portEdit p) ∧ portEdit.me.notices.length ≤ 5 ∧
    ControlEntry.response 2 ∈ portEdit.ports[(0 : Port)].control ∧ portEdit.ports[(0 : Port)].data.count 2 = 1 ∧
    (∀ p : Port, SwapDrops portEdit p → ControlEntry.response 1 ∉ portEdit.ports[p].control) ∧
    portEdit.ports[(1 : Port)].link ≠ .up ∧
    (∀ p ∈ ([6, 7] : List Port), inPortList portEdit.banks.active.part.portEnable p = false ∧
      inPortList portEdit.banks.shadow.part.portEnable p = true) ∧
    inPortList portEdit.banks.active.part.portEnable 2 = inPortList portEdit.banks.shadow.part.portEnable 2 := by
  refine ⟨bothBegin (by decide +kernel), ?_⟩
  unfold SwapDrops
  decide +kernel

def timingEdit (old new : Source) (port : Port) : State :=
  armed (withShadowPart (fun r => { r with source := new, timingPort := port })
    (withPart (fun r => { r with source := old }) (atEnd State.reset)))

/-- Every pair of sources, timing_port 0 kept and changed to 3; timing_port 0 UP and left out of port_enable in LOCKED. -/
theorem witness_swapReevaluatesTiming :
    (∀ x ∈ [Source.free, .follow], ∀ y ∈ [Source.free, .follow], ∀ p ∈ ([0, 3] : List Port),
      let s := timingEdit x y p
      BothBegin s ∧ s.banks.state = .armed ∧ s.banks.touchedPart = true ∧ s.banks.active.part.source = x ∧
      s.banks.shadow.part.source = y ∧ s.banks.active.part.timingPort = 0 ∧ s.banks.shadow.part.timingPort = p ∧
      s.me.notices.length ≤ 5) ∧
    (let s := withTf .locked (withShadowPart (fun r => { r with portEnable := 0xFE }) (upPort 0 (timingEdit .follow .follow 0)))
     BothBegin s ∧ s.banks.state = .armed ∧ s.banks.touchedPart = true ∧ s.tf.state = .locked ∧
     s.ports[s.banks.active.part.timingPort].link = .up ∧
     inPortList s.banks.shadow.part.portEnable s.banks.active.part.timingPort = false) := by
  refine ⟨?_, bothBegin (by decide +kernel), by decide +kernel⟩
  intro x hx y hy p hp
  simp only [List.mem_cons, List.not_mem_nil, or_false] at hx hy hp
  rcases hx with rfl | rfl <;> rcases hy with rfl | rfl <;> rcases hp with rfl | rfl <;>
    exact ⟨bothBegin (by decide +kernel), by decide +kernel⟩

/-- Leases of 1 and 2, and no holder. -/
theorem witness_boundaryCountsTheLease :
    (∀ n ∈ [1, 2], let s := atEnd (held 7 3 n State.reset)
      BothBegin s ∧ s.me.claim.holder = some 7 ∧ s.me.claim.lease = n ∧ s.me.notices.length ≤ 5) ∧
    BothBegin (atEnd State.reset) ∧ (atEnd State.reset).me.claim.holder = none := by
  refine ⟨?_, bothBegin (by decide +kernel), rfl⟩
  intro n hn
  simp only [List.mem_cons, List.not_mem_nil, or_false] at hn
  rcases hn with rfl | rfl <;> exact ⟨bothBegin (by decide +kernel), by decide +kernel⟩

/-- In LOCKED, silent counters of 6 and 7 with the seen mark clear, the second in ARMED too; in FREE. -/
theorem witness_boundaryMakesTheSilentCheck :
    (∀ n ∈ [6, 7], let s := (atEnd (following .locked State.reset)).modTf (fun f => { f with silent := BitVec.ofNat 32 n })
      BothBegin s ∧ s.banks.state ≠ .armed ∧ s.tf.state = .locked ∧ s.tf.seen = false ∧
      s.tf.checkedSilent.toNat = n + 1 ∧ s.me.notices.length ≤ 5) ∧
    (let s := armed ((atEnd (following .locked State.reset)).modTf (fun f => { f with silent := 7 }))
     BothBegin s ∧ s.banks.touchedPart = false ∧ inPortList s.banks.shadow.part.portEnable s.part.timingPort = true ∧
     s.tf.state = .locked ∧ s.tf.checkedSilent.toNat = 8) ∧
    BothBegin (atEnd State.reset) ∧ (atEnd State.reset).banks.state ≠ .armed ∧ (atEnd State.reset).tf.state = .free := by
  refine ⟨?_, ⟨bothBegin (by decide +kernel), by decide +kernel⟩, bothBegin (by decide +kernel), by decide +kernel⟩
  intro n hn
  simp only [List.mem_cons, List.not_mem_nil, or_false] at hn
  rcases hn with rfl | rfl <;> exact ⟨bothBegin (by decide +kernel), by decide +kernel⟩

/-- Port 5 with `n` CONTROL entries, port 6 outside sync_out, both UP. -/
def syncing (n : Nat) : State :=
  atEnd ((withPart (fun r => { r with syncOut := 0x20 }) (upPort 5 (upPort 6 State.reset))).modPort 5
    (fun q => { q with control := List.replicate n (.sync 0 0) }))

/-- The holder on port 5 and on port 6; a swap that puts port 5 into sync_out. -/
theorem witness_boundarySendsSyncs :
    (∀ n ∈ [2, 3, 4], ∀ h ∈ ([5, 6] : List Port), let s := held 7 h 2 (syncing n)
      BothBegin s ∧ s.me.claim.holder ≠ none ∧ s.me.claim.port = h ∧
      inPortList s.nextPart.syncOut 5 = true ∧ inPortList s.nextPart.portEnable 5 = true ∧
      s.ports[(5 : Port)].link = .up ∧ s.ports[(5 : Port)].control.length = n ∧
      inPortList s.nextPart.syncOut 6 = false) ∧
    (let s := armed (withShadowPart (fun r => { r with syncOut := 0x20 }) (atEnd (upPort 5 State.reset)))
     BothBegin s ∧ inPortList s.nextPart.syncOut 5 = true ∧ inPortList s.part.syncOut 5 = false ∧
     inPortList s.nextPart.portEnable 5 = true ∧ s.ports[(5 : Port)].link = .up ∧ s.me.claim.holder = none) := by
  refine ⟨?_, bothBegin (by decide +kernel), by decide +kernel⟩
  intro n hn h hh
  simp only [List.mem_cons, List.not_mem_nil, or_false] at hn hh
  rcases hn with rfl | rfl | rfl <;> rcases hh with rfl | rfl <;> exact ⟨bothBegin (by decide +kernel), by decide +kernel⟩

/-- A notice of age `a` in front of one of age never or 0. -/
def sending (a : Nat) (b : Option Nat) : State :=
  atEnd (held 7 3 2 ((upPort 3 State.reset).modMe (fun m => { m with
    notices := [⟨0, .startedPowerOn, .nothing, 1, some a⟩, ⟨1, .poolEmpty, .nothing, 1, b⟩] })))

/-- `sending 199 none` with a SYNC to the holder's port, which has `n` CONTROL entries. -/
def sendingWithSync (n : Nat) : State :=
  (withPart (fun r => { r with syncOut := 8 }) (sending 199 none)).modPort 3
    (fun q => { q with control := List.replicate n (.sync 0 0) })

/-- With resend 200: age 199 becomes due, 198 does not, and never is due; with a commit armed; with a SYNC to the holder's
port, at 2 and at 3 entries; and the cases in which nothing is sent: no holder, the lease ending, the port disabled, not UP
or full. -/
theorem witness_boundarySendsANotice :
    (∀ x ∈ [(199, none), (198, none), (198, some 0)], let s := sending x.1 x.2
      BothBegin s ∧ s.banks.state ≠ .armed ∧ s.tf.state ≠ .locked ∧ s.me.claim.holder ≠ none ∧ 2 ≤ s.me.claim.lease ∧
      inPortList s.nextPart.portEnable s.me.claim.port = true ∧ s.ports[s.me.claim.port].link = .up ∧
      s.ports[s.me.claim.port].control.length = 0 ∧ s.nextPart.resend = 200) ∧
    BothBegin (armed (sending 199 none)) ∧
    (∀ n ∈ [2, 3], let s := sendingWithSync n
      BothBegin s ∧ inPortList s.nextPart.syncOut s.me.claim.port = true ∧ s.ports[s.me.claim.port].link = .up ∧
      s.ports[s.me.claim.port].control.length = n) ∧
    (let s := (sending 199 none).modMe (fun m => { m with claim := { m.claim with lease := 1 } })
     BothBegin s ∧ LeaseEnds s 7) ∧
    (let s := sending 199 none
     (s.modMe (fun m => { m with claim := Claim.absent })).me.claim.holder = none ∧
     inPortList (withPart (fun r => { r with portEnable := 1 }) s).nextPart.portEnable 3 = false ∧
     (s.modPort 3 (fun q => { q with link := .training })).ports[(3 : Port)].link ≠ .up ∧
     (s.modPort 3 (fun q => { q with control := List.replicate 4 (.sync 0 0) })).ports[(3 : Port)].control.length = 4) := by
  refine ⟨?_, bothBegin (by decide +kernel), ?_, ⟨bothBegin (by decide +kernel), rfl, by decide +kernel⟩, by decide +kernel⟩
  · intro x hx
    simp only [List.mem_cons, List.not_mem_nil, or_false] at hx
    rcases hx with rfl | rfl | rfl <;> exact ⟨bothBegin (by decide +kernel), by decide +kernel⟩
  · intro n hn
    simp only [List.mem_cons, List.not_mem_nil, or_false] at hn
    rcases hn with rfl | rfl <;> exact ⟨bothBegin (by decide +kernel), by decide +kernel⟩

theorem witness_noWindowIsOpenAtABoundary : ScheduleInv doneGroup ∧ BoundaryDue doneGroup := by
  unfold ScheduleInv Bank.legal PartRec.legal GroupRec.legal Dest.legal Bank.windowsFit PartRec.margin BoundaryDue
  decide +kernel

/-- 1.10: group 4 OPEN, group 6 DONE. -/
def stepping : State :=
  handed 500 (atTick 412 (following .acquire
    (withGroup 4 { group12 with openTick := 100 } (fun a => { a with state := .opened })
      (withGroup 6 { group12 with openTick := 0, closeTick := 50 } (fun a => { a with state := .done }) State.reset))))

/-- A step asked for while a SYNC waits and the armed Part record changes timing_port. -/
def stepHeld : State := asked 500 (armed (withShadowPart (fun r => { r with timingPort := 5 }) stepping))

theorem witness_acquiringSyncSteps : stepping.tf.handed = [500] ∧ stepping.pt.stepRequest = none ∧
    stepping.tf.state = .acquire ∧ stepping.banks.state ≠ .armed ∧ stepping.groups[(4 : GroupId)].state = .opened ∧
    stepping.groups[(6 : GroupId)].state = .done ∧ stepping.groups[(5 : GroupId)].state = .off ∧
    stepHeld.pt.stepRequest ≠ none ∧ stepHeld.banks.state = .armed ∧ MovesTiming stepHeld ∧ stepHeld.tf.handed ≠ [] := by
  unfold MovesTiming
  decide +kernel

/-- Offsets 8, −8 and 0 of tolerance 8. -/
theorem witness_syncInToleranceAdjusts : ∀ k ∈ [8, 992, 0], ∀ x ∈ [TimingState.locked, .holdover],
    let s := handed 7002 (atTick k (following x State.reset))
    s.tf.handed = [7002] ∧ s.pt.stepRequest = none ∧ (s.tf.state = .locked ∨ s.tf.state = .holdover) ∧
    (offsetNow s).natAbs ≤ s.part.tolerance := by decide +kernel

/-- Offsets 9 and −9; the second and the third miss. -/
theorem witness_syncOutOfToleranceMisses : ∀ k ∈ [9, 991], ∀ x ∈ [TimingState.locked, .holdover], ∀ n ∈ [1, 2],
    let s := (handed 7004 (atTick k (following x State.reset))).modTf (fun f => { f with miss := BitVec.ofNat 32 n })
    s.tf.handed = [7004] ∧ s.pt.stepRequest = none ∧ s.part.tolerance < (offsetNow s).natAbs ∧ (s.tf.state = .locked ∨ s.tf.state = .holdover) ∧
    s.tf.miss.toNat = n := by decide +kernel

theorem witness_expiryAndSilenceEnd :
    ((held 7 3 0 State.reset).me.claim.holder = some 7 ∧ (held 7 3 0 State.reset).me.claim.lease = 0) ∧
    (let s := (withTf .locked State.reset).modTf (fun f => { f with silent := 8 })
     s.tf.state = .locked ∧ 8 ≤ s.tf.silent.toNat) := by decide +kernel

/-- The first and the last position of each table. -/
theorem witness_refreshCopiesThePosition : ∀ k ∈ [0, 1023, 1024, 1087, 1088],
    (refreshing k State.reset).banks.state = .refresh ∧ (refreshing k State.reset).banks.copyPos ≤ 1088 ∧
    (refreshing k State.reset).banks.copyPos = k := by decide +kernel

theorem witness_refreshCompletes : (refreshing 1089 State.reset).banks.state = .refresh ∧
    (refreshing 1089 State.reset).banks.copyPos = 1089 ∧ BanksInv (refreshing 1089 State.reset) := by
  refine ⟨by decide +kernel, by decide +kernel, fun i _ => rfl, fun g _ => rfl, fun _ => rfl,
    fun _ => ⟨fun i _ => ?_, fun g _ => ?_, fun _ => rfl⟩⟩
  · show (Vector.replicate 1024 false)[i] = false
    simp
  · show (Vector.replicate 64 false)[g] = false
    simp

/-! #### Windows -/

theorem witness_openStartsTheWindow : ∀ x ∈ [CombineOp.sum, .max, .min, .priority],
    let s := atTick 100 (withGroup 20 { group20 with op := x } (fun a => { a with state := .idle }) State.reset)
    WindowDue s 20 s.banks.active.groups[(20 : GroupId)].openTick .idle ∧
    s.banks.active.groups[(20 : GroupId)].op = x := by
  unfold WindowDue
  decide +kernel

/-- A close of group 30 with three of `quorum` arrivals. -/
def closing (quorum : Nat) (o : OnShort) (m : GroupMode) (n : Bool) : State :=
  withGroup 30 { group30 with quorum := quorum, onShort := o, mode := m, notifyShort := n } id period70

/-- The close in `s`, ordinary, and forced in `asked 9 s`. -/
def BothClose (s : State) : Prop :=
  Closes (.closeWindow 30) false s 30 ∧ ∀ sch, Closes (.syncTaken (.only [30]) sch) true (asked 9 s) 30

theorem bothClose {s : State} (h : s.banks.active.groups[(30 : GroupId)].enabled = true ∧
    s.banks.active.groups[(30 : GroupId)].closeTick = s.pt.tick ∧ s.groups[(30 : GroupId)].state = .opened) : BothClose s :=
  ⟨.inl ⟨rfl, rfl, h⟩, fun sch => .inr ⟨rfl, ⟨sch, rfl⟩, nofun, h.2.2⟩⟩

theorem witness_shortCloseSuppresses : ∀ m ∈ [GroupMode.continuous, .oneShot], ∀ n ∈ [true, false],
    let s := closing 4 .suppress m n
    BothClose s ∧ arrivals s.groups[(30 : GroupId)] < s.banks.active.groups[(30 : GroupId)].quorum ∧
    s.banks.active.groups[(30 : GroupId)].onShort = .suppress := by
  intro m hm n hn
  simp only [List.mem_cons, List.not_mem_nil, or_false] at hm hn
  rcases hm with rfl | rfl <;> rcases hn with rfl | rfl <;> exact ⟨bothClose (by decide +kernel), by decide +kernel⟩

/-- Quorum 3 met, with a filled slot; quorum 4 missed under MUTE. Ports 0 and 1 take the cell. -/
theorem witness_closeEmitsTheOutput : ∀ k ∈ [3, 4],
    let s := closing k .mute .continuous true
    let r := s.banks.active.groups[(30 : GroupId)]
    BothClose s ∧ TakeCount r.dest (fun _ => False) s 2 ∧
    (arrivals s.groups[(30 : GroupId)] < r.quorum → r.onShort = .mute) ∧ takeBuffer s = some 0 ∧
    filledSlots r s.groups[(30 : GroupId)] ≠ [] ∧ r.quorum = k := by
  intro k hk
  simp only [List.mem_cons, List.not_mem_nil, or_false] at hk
  rcases hk with rfl | rfl <;>
  exact ⟨bothClose (by decide +kernel), ⟨[0, 1], by decide, by decide, by unfold Standing; decide +kernel⟩, by decide +kernel⟩

def emptyPool (s : State) : State := { s with pool := Vector.replicate 384 { Buffer.powerOn with refs := 1 } }

theorem emptyPool_takes_none (s : State) : takeBuffer (emptyPool s) = none := by
  unfold takeBuffer emptyPool
  rw [Vector.findFinIdx?_eq_none_iff]
  intro b hb
  simp only [Vector.mem_replicate] at hb
  rw [hb.2]
  decide

def allDown (s : State) : State := { s with ports := Vector.replicate 8 PortState.powerOn }

/-- Quorum 3 met, quorum 4 missed under MUTE. -/
theorem witness_closeLosesTheOutput : ∀ k ∈ [3, 4],
    (let s := emptyPool (closing k .mute .continuous true)
     BothClose s ∧ takeBuffer s = none ∧
     s.banks.active.groups[(30 : GroupId)].onShort = .mute ∧ arrivals s.groups[(30 : GroupId)] = 3 ∧
     s.banks.active.groups[(30 : GroupId)].quorum = k) ∧
    (let s := allDown (closing k .mute .continuous true)
     BothClose s ∧ TakeCount s.banks.active.groups[(30 : GroupId)].dest (fun _ => False) s 0 ∧
     takeBuffer s = some 0) := by
  have hd : ∀ q : Port, (Vector.replicate 8 PortState.powerOn)[q].link ≠ .up := by decide +kernel
  have none_stands : ∀ k, TakeCount (allDown (closing k .mute .continuous true)).banks.active.groups[(30 : GroupId)].dest
      (fun _ => False) (allDown (closing k .mute .continuous true)) 0 := by
    refine fun k => ⟨[], by decide, rfl, fun p => ⟨nofun, fun h => ?_⟩⟩
    exact absurd h.1.2.2 (hd p)
  intro k hk
  simp only [List.mem_cons, List.not_mem_nil, or_false] at hk
  rcases hk with rfl | rfl <;>
  exact ⟨⟨bothClose (by decide +kernel), emptyPool_takes_none _, by decide +kernel⟩, bothClose (by decide +kernel),
    none_stands _, by decide +kernel⟩

/-- Sixteen samples at the edges of the range; 42 data bytes; a repeat count of 255. -/
theorem witness_outputCellLayout :
    (([-8388608, 8388607, -1, 0, 1, 2, 3, 4, 5, 6, 7, 8, 9, 10, 11, 12] : Samples).length = 16 ∧
      ∀ x ∈ ([-8388608, 8388607, -1, 0, 1, 2, 3, 4, 5, 6, 7, 8, 9, 10, 11, 12] : Samples), -8388608 ≤ x ∧ x ≤ 8388607) ∧
    (Response.mk 1023 7 100 8 .ok (List.replicate 42 255) 3 9).data.length ≤ 42 ∧
    (NoticeCopy.mk ⟨5, .link 7, .link true, 255, none⟩ 1023 9 true).notice.repeats ≤ 255 := by
  decide

theorem witness_runningResultIgnoresOrder : IsIdentity { GroupRec.default with op := .priority } (.lead none) ∧
    IsIdentity GroupRec.default (.values [0]) ∧
    ([(2, [5]), (0, [7])] : List (Slot × Samples)).Perm [(0, [7]), (2, [5])] ∧
    (([(2, [5]), (0, [7])] : List (Slot × Samples)).map (·.1)).Nodup := by
  unfold IsIdentity
  decide

/-- A SUM, a MAX or a MIN with slot 3 filled; one without a participant; a PRIORITY led by slot 2 with slot 0 filled below
it, and led by none with and without it. -/
theorem witness_formedOutputValues :
    (let a := { group30Acc Accum.powerOn with result := .values [9, -3] }
     a.arrived[(3 : Slot)] = none ∧ a.holds[(3 : Slot)] = some [-4, 40] ∧ (3 : Slot).val < group30.contributors ∧
     a.result = .values [9, -3] ∧ a.arrived[(0 : Slot)] ≠ none ∧ group30.sampleCount = 2 ∧
     ∀ i : Slot, ((a.holds[i]).getD [0, 0]).length = 2 ∧ ∀ x ∈ (a.holds[i]).getD [], -8388608 ≤ x ∧ x ≤ 8388607) ∧
    (∀ i : Slot, Accum.powerOn.arrived[i] = none ∧ Accum.powerOn.holds[i] = none) ∧
    (∀ x ∈ [none, some ((2 : Slot), ([500] : Samples))],
      let a : Accum := { Accum.powerOn with result := .lead x, holds := Accum.powerOn.holds.set 0 (some [100]) }
      a.result = .lead x ∧ a.arrived[(0 : Slot)] = none ∧ a.holds[(0 : Slot)] = some [100] ∧
      a.holds[(1 : Slot)] = none) := by decide +kernel

/-! #### Cells -/

theorem good (stream sequence : Nat) (l : List Int) : checkGood (dataCell stream sequence l) = true := checkGood_buildCell _

theorem lookedUp {s : State} {p : Port} {l : List Byte} {i : StreamId}
    (h : s.ports[p].link = .up ∧ (cellStreamId (buildCell l)).toNat = i.val ∧
      1 ≤ (cellByte (buildCell l) 0).toNat ∧ (cellByte (buildCell l) 0).toNat ≤ 5 ∧
      (cellByte (buildCell l) 0 = 1 → 1 ≤ cellSampleCount (buildCell l) ∧ cellSampleCount (buildCell l) ≤ 16) ∧
      ¬ (cellByte (buildCell l) 0 = 2 ∧ s.part.source = .follow ∧ s.part.timingPort = p) ∧
      ¬ (cellByte (buildCell l) 0 = 3 ∧ i = s.part.mgmtId)) : LookedUp s p (buildCell l) i :=
  ⟨h.1, checkGood_buildCell l, h.2⟩

/-- A cell of a kind with a stream_id and a sample_count. -/
def kindCell (kind : Byte) (stream : Nat) (n : Byte) : Cell := buildCell (header kind 0 stream 0 n 0)

/-- 2.9 with stream 41 under another action. -/
def period0With (a : Action) : State := withStream 41 { StreamRec.default with action := a } period0

/-- Under CONTRIBUTE and under BOTH. -/
theorem witness_contributionIsAccepted :
    let c := dataCell 41 1 [501, -7]
    (∀ a ∈ [Action.contribute ⟨12, 1, 1⟩, .both ⟨0, 1⟩ ⟨12, 1, 1⟩],
      Accepted (period0With a) 5 c 41 ∧ (period0With a).banks.active.streams[(41 : StreamId)].feeds ⟨12, 1, 1⟩) ∧
    (∀ a, (period0With a).groups = period0.groups ∧ (period0With a).banks.active.groups = period0.banks.active.groups) ∧
    cellByte c 0 = 1 ∧ period0.groups[(12 : GroupId)].state = .opened ∧
    cellSampleCount c = period0.banks.active.groups[(12 : GroupId)].sampleCount ∧
    period0.groups[(12 : GroupId)].arrived[(1 : Slot)] = none ∧ period0.banks.active.groups[(12 : GroupId)].op = .sum ∧
    period0.groups[(12 : GroupId)].result = .values [1000, -2000] := by
  refine ⟨fun a ha => ?_, fun _ => ⟨rfl, rfl⟩, by decide +kernel⟩
  simp only [List.mem_cons, List.not_mem_nil, or_false] at ha
  rcases ha with rfl | rfl
  · exact ⟨⟨lookedUp (by decide +kernel), by decide +kernel⟩, .inl (by decide +kernel)⟩
  · exact ⟨⟨lookedUp (by decide +kernel), by decide +kernel⟩, .inr ⟨⟨0, 1⟩, by decide +kernel⟩⟩

/-- A cell of kind 4; then DATA cells: the group in every state but OPEN, OPEN with a cell of another size, with the slot
arrived. CONTRIBUTE and BOTH. -/
theorem witness_contributionIsDiscarded :
    (∀ c ∈ [kindCell 4 41 0, dataCell 41 1 [1, 2], dataCell 41 1 [1]],
      ∀ a ∈ [Action.contribute ⟨12, 0, 1⟩, .both ⟨0, 1⟩ ⟨12, 0, 1⟩],
      Accepted (period0With a) 5 c 41 ∧ (period0With a).banks.active.streams[(41 : StreamId)].feeds ⟨12, 0, 1⟩) ∧
    (cellByte (kindCell 4 41 0) 0 ≠ 1 ∧ cellByte (dataCell 41 1 [1, 2]) 0 = 1) ∧
    (∀ x ∈ [AccState.off, .idle, .done, .spent], ((period0.modGroup 12 (fun a => { a with state := x })).groups[(12 : GroupId)]).state = x ∧
      x ≠ .opened) ∧
    cellSampleCount (dataCell 41 1 [1]) ≠ period0.banks.active.groups[(12 : GroupId)].sampleCount ∧
    cellSampleCount (dataCell 41 1 [1, 2]) = period0.banks.active.groups[(12 : GroupId)].sampleCount ∧
    period0.groups[(12 : GroupId)].state = .opened ∧ period0.groups[(12 : GroupId)].arrived[(0 : Slot)] ≠ none := by
  refine ⟨fun c hc a ha => ?_, by decide +kernel⟩
  simp only [List.mem_cons, List.not_mem_nil, or_false] at hc ha
  rcases ha with rfl | rfl
  · refine ⟨?_, .inl (by decide +kernel)⟩
    rcases hc with rfl | rfl | rfl <;> exact ⟨lookedUp (by decide +kernel), by decide +kernel⟩
  · refine ⟨?_, .inr ⟨⟨0, 1⟩, by decide +kernel⟩⟩
    rcases hc with rfl | rfl | rfl <;> exact ⟨lookedUp (by decide +kernel), by decide +kernel⟩

/-- Ten bytes 0 at a time through the check's register. -/
theorem zeros_crc :
    (List.replicate 10 0).foldl crcByte 0xFFFFFFFF#32 = 477468553#32 ∧ (List.replicate 10 0).foldl crcByte 477468553#32 = 4029310066#32 ∧
    (List.replicate 10 0).foldl crcByte 4029310066#32 = 4294689098#32 ∧ (List.replicate 10 0).foldl crcByte 4294689098#32 = 370393678#32 ∧
    (List.replicate 10 0).foldl crcByte 370393678#32 = 3765994465#32 ∧ (List.replicate 10 0).foldl crcByte 3765994465#32 = 4226643703#32 := by decide +kernel

/-- A cell of zero bytes fails its check. -/
theorem zero_cell_fails : checkGood (Vector.replicate 64 0) = false := by
  have h : ((Vector.replicate 64 0 : Cell).toList.take 60) = List.replicate 10 0 ++ (List.replicate 10 0 ++
    (List.replicate 10 0 ++ (List.replicate 10 0 ++ (List.replicate 10 0 ++ List.replicate 10 0)))) := by decide +kernel
  obtain ⟨h1, h2, h3, h4, h5, h6⟩ := zeros_crc
  unfold checkGood cellCheck crc32
  rw [h, List.foldl_append, List.foldl_append, List.foldl_append, List.foldl_append, List.foldl_append, h1, h2, h3, h4,
    h5, h6]
  decide +kernel

/-- An error run of 6 and of 7; the timing port in LOCKED. -/
theorem witness_failedCheckCounts : checkGood (Vector.replicate 64 0) = false ∧ ∀ n ∈ [6, 7],
    let s := (upPort 2 (following .locked State.reset)).modPort 2 (fun q => { q with errorRun := n })
    s.ports[(2 : Port)].link = .up ∧ s.ports[(2 : Port)].errorRun = n ∧ s.part.timingPort = 2 ∧ s.tf.state = .locked ∧
    s.part.timingPort ≠ 3 := ⟨zero_cell_fails, by decide +kernel⟩

/-- Headers at the edges: kinds 0 and 6, stream_id 1024, sample_counts 0 and 17; a SYNC on the timing port; a request
with 3 and with 4 waiting, on a port in and out of mgmt_ports. -/
theorem witness_cellsBeforeLookup :
    (∀ k n m, checkGood (kindCell k n m) = true) ∧ (cellByte (kindCell 0 5 0) 0).toNat = 0 ∧
    (cellByte (kindCell 6 5 0) 0).toNat = 6 ∧ (cellStreamId (kindCell 1 1024 1)).toNat = 1024 ∧
    cellSampleCount (kindCell 1 5 0) = 0 ∧ cellSampleCount (kindCell 1 5 17) = 17 ∧
    (let s := upPort 2 (following .locked State.reset)
     s.ports[(2 : Port)].link = .up ∧ s.ports[(3 : Port)].link ≠ .up ∧ (cellByte (kindCell 2 1022 0) 0).toNat = 2 ∧
     (cellStreamId (kindCell 2 1022 0)).toNat < 1024 ∧ s.part.source = .follow ∧ s.part.timingPort = 2) ∧
    (∀ n ∈ [3, 4], ∀ l ∈ ([4, 0] : List PortList),
      let s := (withPart (fun r => { r with mgmtPorts := l }) (upPort 2 State.reset)).modMe
        (fun m => { m with requests := List.replicate n ⟨Vector.replicate 64 0, 2⟩ })
      s.ports[(2 : Port)].link = .up ∧ (cellByte (kindCell 3 1023 0) 0).toNat = 3 ∧
      (cellStreamId (kindCell 3 1023 0)).toNat = s.part.mgmtId.val ∧ s.me.requests.length = n ∧
      inPortList s.part.mgmtPorts 2 = (l == 4)) :=
  ⟨fun _ _ _ => checkGood_buildCell _, by decide +kernel⟩

/-- Stream 77's record on port 2, with a guard for the port or for another, and sequence 15 accepted last. -/
def stream77 (a : Action) (g : Option Port) : State :=
  (withStream 77 { action := a, echo := .suppress, rename := some 401, guard := g, seqCheck := true }
    (upPort 2 State.reset)).modStream 77 (fun x => { x with lastSeq := some 15 })

/-- A DATA cell and a notice. -/
theorem witness_cellsRefusedAtLookup :
    (∀ c ∈ [dataCell 77 15 [1], kindCell 5 77 0],
      LookedUp (stream77 .drop none) 2 c 77 ∧ LookedUp (stream77 (.forward ⟨0, 1⟩) (some 5)) 2 c 77) ∧
    LookedUp (stream77 (.forward ⟨0, 1⟩) (some 2)) 2 (dataCell 77 15 [1]) 77 ∧
    (stream77 .drop none).banks.active.streams[(77 : StreamId)].action = .drop ∧
    (stream77 (.forward ⟨0, 1⟩) (some 5)).banks.active.streams[(77 : StreamId)].guard = some 5 ∧
    (let s := stream77 (.forward ⟨0, 1⟩) (some 2)
     s.banks.active.streams[(77 : StreamId)].guard = some 2 ∧ s.banks.active.streams[(77 : StreamId)].action ≠ .drop ∧
     cellByte (dataCell 77 15 [1]) 0 = 1 ∧ s.banks.active.streams[(77 : StreamId)].seqCheck = true ∧
     s.streams[(77 : StreamId)].lastSeq = some (cellByte (dataCell 77 15 [1]) 4)) := by
  refine ⟨fun c hc => ?_, lookedUp (by decide +kernel), by decide +kernel⟩
  simp only [List.mem_cons, List.not_mem_nil, or_false] at hc
  rcases hc with rfl | rfl <;> exact ⟨lookedUp (by decide +kernel), lookedUp (by decide +kernel)⟩

/-- 4.5, cells 5 (a GAP from 15 to 18) and 2 (in order), and a cell of kind 4, forwarded to ports 0 and 1. FORWARD and
BOTH. -/
theorem witness_cellsAreForwarded : ∀ a ∈ [Action.forward ⟨0, 1⟩, .both ⟨0, 1⟩ ⟨12, 1, 1⟩],
    let s := upPort 0 (upPort 1 (stream77 a (some 2)))
    let echoed := fun q : Port => s.banks.active.streams[(77 : StreamId)].echo = .suppress ∧ q = 2
    (∀ c ∈ [dataCell 77 18 [1], dataCell 77 16 [1], kindCell 4 77 0], Accepted s 2 c 77) ∧
    s.banks.active.streams[(77 : StreamId)].forwardsTo ⟨0, 1⟩ ∧ takeBuffer s = some 0 ∧ TakeCount ⟨0, 1⟩ echoed s 2 := by
  intro a ha
  simp only [List.mem_cons, List.not_mem_nil, or_false] at ha
  rcases ha with rfl | rfl
  · refine ⟨fun c hc => ?_, .inl (by decide +kernel), by decide +kernel, [0, 1], by decide, rfl,
      by unfold Standing; decide +kernel⟩
    simp only [List.mem_cons, List.not_mem_nil, or_false] at hc
    rcases hc with rfl | rfl | rfl <;> exact ⟨lookedUp (by decide +kernel), by decide +kernel⟩
  · refine ⟨fun c hc => ?_, .inr ⟨⟨12, 1, 1⟩, by decide +kernel⟩, by decide +kernel, [0, 1], by decide, rfl,
      by unfold Standing; decide +kernel⟩
    simp only [List.mem_cons, List.not_mem_nil, or_false] at hc
    rcases hc with rfl | rfl | rfl <;> exact ⟨lookedUp (by decide +kernel), by decide +kernel⟩

/-- 5.5 with the pool empty, and with port 4 TRAINING. -/
theorem witness_forwardingLosses :
    (let s := emptyPool fanOut
     Accepted s 5 (dataCell 140 1 [1]) 140 ∧ Accepted s 5 (kindCell 4 140 0) 140 ∧
     s.banks.active.streams[(140 : StreamId)].forwardsTo ⟨4, 3⟩ ∧ takeBuffer s = none ∧
     TakeCount ⟨4, 3⟩ (fun q => s.banks.active.streams[(140 : StreamId)].echo = .suppress ∧ q = 5) s 1) ∧
    (let s := fanOut.modPort 4 (fun q => { q with link := .training })
     Accepted s 5 (dataCell 140 1 [1]) 140 ∧ s.banks.active.streams[(140 : StreamId)].forwardsTo ⟨4, 3⟩ ∧
     TakeCount ⟨4, 3⟩ (fun q => s.banks.active.streams[(140 : StreamId)].echo = .suppress ∧ q = 5) s 0) := by
  refine ⟨⟨⟨lookedUp ?_, ?_⟩, ⟨lookedUp ?_, ?_⟩, .inl ?_, emptyPool_takes_none _, [4], by decide, rfl, ?_⟩,
    ⟨lookedUp ?_, ?_⟩, .inl ?_, [], by decide, rfl, ?_⟩ <;> first | decide +kernel | (unfold Standing; decide +kernel)

/-! #### Links -/

/-- Every link state; the timing port in LOCKED and another port. -/
theorem witness_signalAndAlignmentReports : ∀ x ∈ [Link.down, .training, .up],
    let s := (following .locked State.reset).modPort 2 (fun q => { q with link := x })
    s.ports[(2 : Port)].link = x ∧ s.part.timingPort = 2 ∧ s.tf.state = .locked ∧ s.part.timingPort ≠ 3 := by
  decide +kernel

/-- 6.9: DATA sending with and without CONTROL and DATA behind it; CONTROL sending, a response and a SYNC. -/
theorem witness_transmissionCompletes :
    (∀ l ∈ [[], [ControlEntry.sync 0 0]], ∀ m ∈ [[], [(3 : BufId)]],
      let s := (upPort 1 State.reset).modPort 1 (fun q => { q with
        control := l, data := 2 :: m, tx := .sending .data (plainCell []) })
      s.ports[(1 : Port)].link = .up ∧ s.ports[(1 : Port)].tx = .sending .data (plainCell []) ∧
      s.ports[(1 : Port)].data = 2 :: m ∧ s.ports[(1 : Port)].control = l) ∧
    (∀ e ∈ [ControlEntry.response 2, .sync 0 0], ∀ l ∈ [[], [ControlEntry.sync 0 0]], ∀ m ∈ [[], [(3 : BufId)]],
      let s := (upPort 1 State.reset).modPort 1 (fun q => { q with
        control := e :: l, data := m, tx := .sending .control (plainCell []) })
      s.ports[(1 : Port)].link = .up ∧ s.ports[(1 : Port)].tx = .sending .control (plainCell []) ∧
      s.ports[(1 : Port)].control = e :: l ∧ s.ports[(1 : Port)].data = m) := by decide +kernel

/-! #### Requests -/

def tagged (n code : Nat) (args : List Byte) : Request := ⟨plainCell ([3, 0, 3, 255] ++ List.replicate 8 0 ++ nat16 n ++
  nat16 100 ++ [nat8 code, 0] ++ nat16 1000 ++ args), 3⟩

/-- The request `q` is at the head of the queue, port 3 is UP, and the claim is held by `tag`, if by any. -/
def waiting (q : Request) (tag : Option Half) (s : State) : State :=
  (upPort 3 s).modMe (fun m => { m with requests := [q], claim := { m.claim with holder := tag, lease := 50 } })

theorem passes_without_cache {s : State} {q : Request} (h : controllerTag q ≠ 0) (hc : s.me.cache = none) : Passes s q :=
  ⟨h, fun e he => by have := he.2.1; rw [hc] at this; cases this⟩

/-- The hypotheses of a request with code and arguments from controller 7, in a state made by `f`. -/
def Ready (name : Option RequestName) (code : Nat) (args : List Byte) (tag : Option Half) (s : State) : Prop :=
  Takes (waiting (tagged 7 code args) tag s) name (tagged 7 code args) [] 0 ∧
  Passes (waiting (tagged 7 code args) tag s) (tagged 7 code args) ∧
  Deliverable (waiting (tagged 7 code args) tag s) (tagged 7 code args)

theorem ready_of {name : Option RequestName} {code : Nat} {args : List Byte} {tag : Option Half} {s : State}
    (h : freeSlot? (waiting (tagged 7 code args) tag s) = some 0 ∧
      (waiting (tagged 7 code args) tag s).me.resetting = false ∧
      requestName (requestCode (tagged 7 code args)) = name ∧ controllerTag (tagged 7 code args) ≠ 0 ∧
      (waiting (tagged 7 code args) tag s).me.cache = none ∧
      inPortList (waiting (tagged 7 code args) tag s).part.portEnable 3 = true ∧
      (waiting (tagged 7 code args) tag s).ports[(3 : Port)].link = .up ∧
      (waiting (tagged 7 code args) tag s).ports[(3 : Port)].control.length < 4) : Ready name code args tag s :=
  ⟨⟨rfl, h.1, h.2.1, h.2.2.1⟩, passes_without_cache h.2.2.2.1 h.2.2.2.2.1, h.2.2.2.2.2⟩

/-- The reads, with a holder and without one. -/
theorem witness_readsChangeNothing : ∀ tag ∈ [none, some (7 : Half)],
    Ready (some .identify) 1 [] tag State.reset ∧ Ready (some .readStatus) 4 [] tag State.reset ∧
    Ready (some .readTiming) 12 [] tag State.reset ∧ Ready (some .readGroupState) 8 [63] tag State.reset ∧
    Ready (some .readPart) 7 [1] tag State.reset := by
  intro tag ht
  simp only [List.mem_cons, List.not_mem_nil, or_false] at ht
  rcases ht with rfl | rfl <;>
    exact ⟨ready_of (by decide +kernel), ready_of (by decide +kernel), ready_of (by decide +kernel),
      ready_of (by decide +kernel), ready_of (by decide +kernel)⟩

theorem witness_reportsOfState : Ready (some .identify) 1 [] none State.reset ∧
    Ready (some .readStatus) 4 [] (some 9) State.reset ∧ Ready (some .readTiming) 12 [] none State.reset ∧
    Ready (some .readGroupState) 8 [63] none State.reset ∧ argByte (tagged 7 8 [63]) 20 = (63 : GroupId).val ∧
    Ready (some .readGroupState) 8 [64] none State.reset ∧ argByte (tagged 7 8 [64]) 20 = 64 :=
  ⟨ready_of (by decide +kernel), ready_of (by decide +kernel), ready_of (by decide +kernel), ready_of (by decide +kernel),
    by decide +kernel, ready_of (by decide +kernel), by decide +kernel⟩

/-- Indices and blocks on both sides of their bounds. -/
theorem witness_reportsOfCounters :
    (∀ x ∈ ([63, 64] : List Byte), Ready (some .readGroupCounters) 11 [x] none State.reset ∧
      argByte (tagged 7 11 [x]) 20 = x.toNat) ∧
    (∀ x ∈ ([[7, 1], [8, 1], [7, 2]] : List (List Byte)), Ready (some .readPortCounters) 9 x none State.reset) ∧
    argByte (tagged 7 9 [7, 1]) 20 = 7 ∧ argByte (tagged 7 9 [8, 1]) 20 = 8 ∧ argByte (tagged 7 9 [7, 2]) 21 = 2 ∧
    (∀ x ∈ ([[3, 255, 1], [4, 0, 1], [3, 255, 2]] : List (List Byte)),
      Ready (some .readStreamCounters) 10 x none State.reset) ∧
    argHalf (tagged 7 10 [3, 255, 1]) 20 = 1023 ∧ argHalf (tagged 7 10 [4, 0, 1]) 20 = 1024 ∧
    argByte (tagged 7 10 [3, 255, 2]) 22 = 2 := by
  refine ⟨?_, ?_, by decide +kernel, by decide +kernel, by decide +kernel, ?_, by decide +kernel, by decide +kernel,
    by decide +kernel⟩ <;> intro x hx <;> simp only [List.mem_cons, List.not_mem_nil, or_false] at hx
  · rcases hx with rfl | rfl <;> exact ⟨ready_of (by decide +kernel), by decide +kernel⟩
  · rcases hx with rfl | rfl | rfl <;> exact ready_of (by decide +kernel)
  · rcases hx with rfl | rfl | rfl <;> exact ready_of (by decide +kernel)

/-- Banks 0, 1 and 2; counts 0, 1, the greatest and one more; the last index and one past it. -/
theorem witness_reportsOfRecords :
    (∀ x ∈ ([[0, 4, 3, 252], [1, 1, 3, 255], [0, 4, 3, 253], [2, 1, 0, 0], [0, 0, 0, 0], [0, 5, 0, 0]] : List (List Byte)),
      Ready (some .readStream) 5 x none State.reset) ∧
    (∀ x ∈ ([[0, 2, 62], [1, 1, 63], [0, 2, 63], [2, 1, 0], [0, 0, 0], [0, 3, 0]] : List (List Byte)),
      Ready (some .readGroup) 6 x none State.reset) ∧
    (∀ x ∈ ([[0], [1], [2]] : List (List Byte)), Ready (some .readPart) 7 x none State.reset) := by
  refine ⟨?_, ?_, ?_⟩ <;> intro x hx <;> simp only [List.mem_cons, List.not_mem_nil, or_false] at hx
  · rcases hx with rfl | rfl | rfl | rfl | rfl | rfl <;> exact ready_of (by decide +kernel)
  · rcases hx with rfl | rfl | rfl | rfl | rfl | rfl <;> exact ready_of (by decide +kernel)
  · rcases hx with rfl | rfl | rfl <;> exact ready_of (by decide +kernel)

/-- CLAIM without a holder, by the holder, against another; RELEASE by the holder. -/
theorem witness_claimAndRelease :
    (∀ tag ∈ [none, some (7 : Half), some 9], Ready (some .claim) 2 [] tag State.reset) ∧
    Ready (some .release) 3 [] (some 7) State.reset ∧
    ByHolder (waiting (tagged 7 3 []) (some 7) State.reset) (tagged 7 3 []) := by
  refine ⟨?_, ready_of (by decide +kernel), by unfold ByHolder; decide +kernel⟩
  intro x hx
  simp only [List.mem_cons, List.not_mem_nil, or_false] at hx
  rcases hx with rfl | rfl | rfl <;> exact ready_of (by decide +kernel)

/-- Requests by the holder in each bank state. -/
def bankIs (f : BankState) : State := State.reset.modBanks (fun b => { b with state := f })

theorem by_holder (code : Nat) (args : List Byte) (s : State) (h : controllerTag (tagged 7 code args) = 7) :
    ByHolder (waiting (tagged 7 code args) (some 7) s) (tagged 7 code args) := by
  simp only [ByHolder, h]
  rfl

def streamArgs : List Byte := [3, 255] ++ encodeStreamRec edgeStream false
def groupArgs : List Byte := [63] ++ encodeGroupRec edgeGroup false
def partArgs : List Byte := encodePartRec edgePart false

theorem streamLayout_edge : StreamLayout (fun k => cellByte (tagged 7 16 streamArgs).cell (22 + k)) edgeStream := by
  have h : ∀ b : Nat → Byte, b 0 = 3 ∧ b 1 = 15 ∧ b 2 = 3 ∧ b 3 = 255 ∧ b 4 = 7 ∧ b 5 = 2 ∧ b 6 = 5 ∧ b 7 = 63 ∧ b 8 = 7 ∧
      b 9 = 7 → StreamLayout b edgeStream := by
    rintro b ⟨h0, h1, h2, h3, h4, h5, h6, h7, h8, h9⟩
    unfold StreamLayout
    rw [h0, h1, h2, h3, h4, h5, h6, h7, h8, h9]
    simp [edgeStream, StreamRec.forwardsTo, StreamRec.feeds]
  exact h _ (by decide +kernel)

theorem groupLayout_edge : GroupLayout (fun k => cellByte (tagged 7 17 groupArgs).cell (21 + k)) edgeGroup := by
  unfold GroupLayout
  decide +kernel

theorem partLayout_edge : PartLayout (fun k => cellByte (tagged 7 18 partArgs).cell (20 + k)) edgePart := by
  unfold PartLayout
  decide +kernel

theorem witness_writesStoreTheRecord :
    (Ready (some .writeStream) 16 streamArgs (some 7) State.reset ∧
      ByHolder (waiting (tagged 7 16 streamArgs) (some 7) State.reset) (tagged 7 16 streamArgs) ∧
      argHalf (tagged 7 16 streamArgs) 20 = (1023 : StreamId).val ∧ edgeStream.action.legal) ∧
    (Ready (some .writeGroup) 17 groupArgs (some 7) State.reset ∧
      ByHolder (waiting (tagged 7 17 groupArgs) (some 7) State.reset) (tagged 7 17 groupArgs) ∧
      argByte (tagged 7 17 groupArgs) 20 = (63 : GroupId).val ∧ edgeGroup.legal) ∧
    (Ready (some .writePart) 18 partArgs (some 7) State.reset ∧
      ByHolder (waiting (tagged 7 18 partArgs) (some 7) State.reset) (tagged 7 18 partArgs) ∧ edgePart.legal) ∧
    State.reset.banks.state = .idle :=
  ⟨⟨ready_of (by decide +kernel), by_holder _ _ _ (by decide +kernel), by decide +kernel,
      (by decide : (2 : BitVec 3) &&& 5 = 0)⟩,
    ⟨ready_of (by decide +kernel), by_holder _ _ _ (by decide +kernel), by decide +kernel,
      by unfold GroupRec.legal Dest.legal; decide +kernel⟩,
    ⟨ready_of (by decide +kernel), by_holder _ _ _ (by decide +kernel), by unfold PartRec.legal; decide +kernel⟩, rfl⟩

/-- ARMED and REFRESH; indices 1024 and 64; a stream's rename of 1024, a set with a common bit, the edge record; a group's
op 4, a set with a common bit, a window of no ticks, the edge record; a base_len of 63, the edge record. -/
theorem witness_writesAreRefused :
    (∀ f ∈ [BankState.armed, .refresh], Ready (some .writeStream) 16 streamArgs (some 7) (bankIs f) ∧
      Ready (some .writeGroup) 17 groupArgs (some 7) (bankIs f) ∧
      Ready (some .writePart) 18 partArgs (some 7) (bankIs f)) ∧
    (∀ x ∈ ([[4, 0], [3, 255, 0, 4, 4, 0], [3, 255, 1, 0, 0, 0, 0, 1, 1], streamArgs] : List (List Byte)),
      Ready (some .writeStream) 16 x (some 7) State.reset) ∧
    (∀ x ∈ ([[64], [63, 0, 4], [63, 0, 0, 0, 0, 0, 1, 1, 1, 1, 0, 0, 1, 1], [63, 0, 0, 0, 1, 0, 1, 1, 1, 1, 0, 0, 0, 0],
        groupArgs] : List (List Byte)), Ready (some .writeGroup) 17 x (some 7) State.reset) ∧
    (∀ x ∈ ([[255, 255, 0, 0, 3, 255, 0, 63], partArgs] : List (List Byte)),
      Ready (some .writePart) 18 x (some 7) State.reset) ∧
    argHalf (tagged 7 16 [4, 0]) 20 = 1024 ∧ argHalf (tagged 7 16 streamArgs) 20 = 1023 ∧
    argByte (tagged 7 17 [64]) 20 = 64 ∧ argByte (tagged 7 17 groupArgs) 20 = 63 := by
  refine ⟨?_, ?_, ?_, ?_, by decide +kernel⟩ <;> intro x hx <;>
    simp only [List.mem_cons, List.not_mem_nil, or_false] at hx
  · rcases hx with rfl | rfl <;> refine ⟨ready_of ?_, ready_of ?_, ready_of ?_⟩ <;> decide +kernel
  · rcases hx with rfl | rfl | rfl | rfl <;> exact ready_of (by decide +kernel)
  · rcases hx with rfl | rfl | rfl | rfl | rfl <;> exact ready_of (by decide +kernel)
  · rcases hx with rfl | rfl <;> exact ready_of (by decide +kernel)

theorem reset_shadow_consistent : State.reset.banks.shadow.consistent := by
  refine ⟨?_, ?_, ?_, ⟨0, by decide +kernel, by decide +kernel⟩, by decide +kernel⟩
  · unfold Bank.windowsFit
    decide +kernel
  · rintro i g k ⟨f, hf, -, -⟩
    simp [State.reset, Banks.powerOn, Bank.default, StreamRec.default, StreamRec.feeds] at hf
  · rintro i j g k ⟨f, hf, -, -⟩
    simp [State.reset, Banks.powerOn, Bank.default, StreamRec.default, StreamRec.feeds] at hf

theorem twice_inconsistent : ¬ twice.banks.shadow.consistent := by
  rintro ⟨-, -, h, -, -⟩
  have h22 : twice.banks.shadow.streams[(22 : StreamId)].names 5 2 := ⟨⟨5, 2, 0⟩, .inl (by decide +kernel), rfl, rfl⟩
  have h23 : twice.banks.shadow.streams[(23 : StreamId)].names 5 2 := ⟨⟨5, 2, 0⟩, .inl (by decide +kernel), rfl, rfl⟩
  exact absurd (h 22 23 5 2 h22 h23) (by decide)

/-- A shadow bank changed by `f`. -/
def shadowed (f : Bank → Bank) : State := State.reset.modBanks (fun b => { b with shadow := f b.shadow })

/-- The first of each check's failures: a close_tick of B, a slot equal to contributors, no port in mgmt_ports, FOLLOW with
timing_port outside port_enable. -/
theorem witness_commitReasons :
    (let b := (shadowed (fun b => { b with groups := b.groups.set 63 { group12 with closeTick := 1000 } })).banks.shadow
     b.groups[(63 : GroupId)].enabled = true ∧ b.part.baseLen < b.groups[(63 : GroupId)].closeTick + b.part.margin + 1) ∧
    (let b := (shadowed (fun b => { b with streams := b.streams.set 1023 (feed 0 1 0) })).banks.shadow
     b.streams[(1023 : StreamId)].names 0 1 ∧ b.groups[(0 : GroupId)].contributors = 1) ∧
    (twice.banks.shadow.streams[(23 : StreamId)].names 5 2 ∧ twice.banks.shadow.streams[(22 : StreamId)].names 5 2) ∧
    (∀ p : Port, inPortList (shadowed (fun b => { b with part := { b.part with mgmtPorts := 0 } })).banks.shadow.part.mgmtPorts p = false) ∧
    (let b := (shadowed (fun b => { b with part := { b.part with source := .follow, portEnable := 0xFE } })).banks.shadow
     b.part.source = .follow ∧ inPortList b.part.portEnable b.part.timingPort = false) :=
  ⟨by decide +kernel, ⟨⟨⟨0, 1, 0⟩, .inl (by decide +kernel), rfl, rfl⟩, by decide +kernel⟩,
    ⟨⟨⟨5, 2, 0⟩, .inl (by decide +kernel), rfl, rfl⟩, ⟨5, 2, 0⟩, .inl (by decide +kernel), rfl, rfl⟩, by decide +kernel,
    by decide +kernel⟩

theorem witness_commitChecksAndArms :
    (Ready (some .commit) 19 [] (some 7) State.reset ∧
      ByHolder (waiting (tagged 7 19 []) (some 7) State.reset) (tagged 7 19 []) ∧
      State.reset.banks.shadow.consistent) ∧
    (Ready (some .commit) 19 [] (some 7) twice ∧ ByHolder (waiting (tagged 7 19 []) (some 7) twice) (tagged 7 19 []) ∧
      ¬ twice.banks.shadow.consistent) ∧
    Ready (some .commit) 19 [] (some 7) (bankIs .armed) ∧ Ready (some .commit) 19 [] (some 7) (bankIs .refresh) :=
  ⟨⟨ready_of (by decide +kernel), by_holder _ _ _ (by decide +kernel), reset_shadow_consistent⟩,
    ⟨ready_of (by decide +kernel), by_holder _ _ _ (by decide +kernel), twice_inconsistent⟩,
    ready_of (by decide +kernel), ready_of (by decide +kernel)⟩

theorem witness_cancelDisarms : ∀ f ∈ [BankState.idle, .armed, .refresh],
    Ready (some .cancel) 20 [] (some 7) (bankIs f) ∧
    ByHolder (waiting (tagged 7 20 []) (some 7) (bankIs f)) (tagged 7 20 []) := by
  intro f hf
  simp only [List.mem_cons, List.not_mem_nil, or_false] at hf
  rcases hf with rfl | rfl | rfl <;> exact ⟨ready_of (by decide +kernel), by_holder _ _ _ (by decide +kernel)⟩

/-- Every scope, the last index and one past it; an acknowledgement of notices 0 and 1 and of none; RESET. -/
theorem witness_clearAcknowledgeReset :
    (∀ x ∈ ([[0], [1, 0, 7], [1, 0, 8], [2, 3, 255], [2, 4, 0], [3, 0, 63], [3, 0, 64], [4]] : List (List Byte)),
      Ready (some .clearCounters) 21 x (some 7) State.reset ∧
      ByHolder (waiting (tagged 7 21 x) (some 7) State.reset) (tagged 7 21 x)) ∧
    (Ready (some .ackNotice) 22 [0, 1] (some 7) noticed ∧
      (∀ x ∈ noticed.me.notices.take 2, (cellHalf (tagged 7 22 [0, 1]).cell 20 - x.number).toNat < 32768) ∧
      (∀ x ∈ noticed.me.notices.drop 2, ¬ (cellHalf (tagged 7 22 [0, 1]).cell 20 - x.number).toNat < 32768) ∧
      noticed.me.notices = noticed.me.notices.take 2 ++ noticed.me.notices.drop 2) ∧
    (Ready (some .ackNotice) 22 [128, 0] (some 7) noticed ∧
      (cellHalf (tagged 7 22 [128, 0]).cell 20 - (0 : Half)).toNat = 32768) ∧
    Ready (some .reset) 23 [] (some 7) State.reset := by
  refine ⟨?_, ⟨ready_of (by decide +kernel), by decide +kernel, by decide +kernel, by decide +kernel⟩,
    ⟨ready_of (by decide +kernel), by decide +kernel⟩, ready_of (by decide +kernel)⟩
  intro x hx
  simp only [List.mem_cons, List.not_mem_nil, or_false] at hx
  rcases hx with rfl | rfl | rfl | rfl | rfl | rfl | rfl | rfl <;>
    exact ⟨ready_of (by decide +kernel), by_holder _ _ _ (by decide +kernel)⟩

/-- Every row, named or not, with its code. -/
def rows : List (Nat × Option RequestName) :=
  [(0, none), (13, none), (24, none), (1, some .identify), (2, some .claim), (3, some .release), (4, some .readStatus),
    (5, some .readStream), (6, some .readGroup), (7, some .readPart), (8, some .readGroupState),
    (9, some .readPortCounters), (10, some .readStreamCounters), (11, some .readGroupCounters), (12, some .readTiming),
    (16, some .writeStream), (17, some .writeGroup), (18, some .writePart), (19, some .commit), (20, some .cancel),
    (21, some .clearCounters), (22, some .ackNotice), (23, some .reset)]

/-- The state in which the holder 7's transaction 100 is cached. -/
def cached (q : Request) : State :=
  (waiting q (some 7) State.reset).modMe (fun m => { m with cache := some ⟨100, 19, .ok, []⟩ })

/-- No name; a reserved request without the claim; in every row a tag of 0 and a repeated transaction. -/
theorem witness_requestsNotExecuted :
    (Ready none 13 [] none State.reset ∧ Ready none 0 [] none State.reset ∧ Ready none 24 [] none State.reset) ∧
    (Ready (some .commit) 19 [] (some 9) State.reset ∧
      ¬ ByHolder (waiting (tagged 7 19 []) (some 9) State.reset) (tagged 7 19 [])) ∧
    (∀ x ∈ rows, Takes (waiting (tagged 0 x.1 []) none State.reset) x.2 (tagged 0 x.1 []) [] 0 ∧
      controllerTag (tagged 0 x.1 []) = 0 ∧
      Takes (cached (tagged 7 x.1 [])) x.2 (tagged 7 x.1 []) [] 0 ∧ controllerTag (tagged 7 x.1 []) ≠ 0 ∧
      Repeats (cached (tagged 7 x.1 [])) (tagged 7 x.1 []) ⟨100, 19, .ok, []⟩) := by
  have h : ∀ x ∈ rows, requestName (requestCode (tagged 0 x.1 [])) = x.2 ∧ controllerTag (tagged 0 x.1 []) = 0 ∧
      requestName (requestCode (tagged 7 x.1 [])) = x.2 ∧ controllerTag (tagged 7 x.1 []) = 7 ∧
      transactionTag (tagged 7 x.1 []) = 100 := by decide +kernel
  refine ⟨⟨ready_of (by decide +kernel), ready_of (by decide +kernel), ready_of (by decide +kernel)⟩,
    ⟨ready_of (by decide +kernel), by unfold ByHolder; decide +kernel⟩, fun x hx => ?_⟩
  obtain ⟨h1, h2, h3, h4, h5⟩ := h x hx
  have free : freeSlot? State.reset = some 0 := by decide +kernel
  refine ⟨⟨rfl, free, rfl, h1⟩, h2, ⟨rfl, free, rfl, h3⟩, by rw [h4]; decide, ?_, rfl, h5.symm⟩
  simp only [ByHolder, h4]
  rfl

end Sys2Proof.Tests
end

section
/-!
SUPPORT. How ME answers a request that it takes (R164 to R166, R173): the response's place, the way out of every fresh
answer, and the decision's place between them. Then CANCEL (R121).
-/

namespace Sys2Proof.Machine

/-! ### The place of a response (R97, R100, R166) -/

theorem deliverable_iff (s : State) (q : Request) :
    (reachable s q.port && controlRoom s q.port) = true ↔ Deliverable s q := by
  simp only [reachable, controlRoom, State.enabled, State.isUp, Bool.and_eq_true, beq_iff_eq, decide_eq_true_eq, and_assoc]
  rfl

theorem modPort_ports_self (p : Port) (f : PortState → PortState) (s : State) :
    (s.modPort p f).ports[p] = f s.ports[p] := (vecMod_get _ _ _ _).trans (if_pos rfl)

theorem modPort_ports_ne {p p' : Port} (f : PortState → PortState) (s : State) (h : p' ≠ p) :
    (s.modPort p f).ports[p'] = s.ports[p'] := vecMod_ne _ _ h.symm

/-- The arbiter of a port reaches no other. -/
theorem arbitrate_ports_ne {p p' : Port} (s : State) (h : p' ≠ p) : (arbitrate p s).ports[p'] = s.ports[p'] := by
  rcases arbitrate_cases p s with e | ⟨l, c, e, -⟩ <;> rw [e]
  exact modPort_ports_ne _ _ h

/-- The arbiter touches a port's transmitter alone: a busy one stays, and an idle one under an UP link starts the head of
CONTROL when there is one (R100). -/
theorem arbitrate_ports_self (p : Port) (s : State) :
    ∃ tx, (arbitrate p s).ports[p] = { s.ports[p] with tx := tx } ∧
      (s.ports[p].tx ≠ .idle → tx = s.ports[p].tx) ∧
      (s.ports[p].tx = .idle → s.ports[p].link = .up → ∀ e es, s.ports[p].control = e :: es →
        tx = .sending .control (controlCell s e)) := by
  unfold arbitrate
  split
  next h =>
    split
    next e es hc =>
      refine ⟨_, modPort_ports_self _ _ _, fun hb => absurd h.1 hb, fun _ _ e' es' hc' => ?_⟩
      rw [(List.cons.inj (hc.symm.trans hc')).1]
    next hc _ =>
      exact ⟨_, modPort_ports_self _ _ _, fun hb => absurd h.1 hb, fun _ _ e' es' hc' => nomatch hc.symm.trans hc'⟩
    next hc _ =>
      exact ⟨_, rfl, fun _ => rfl, fun _ _ e' es' hc' => nomatch hc.symm.trans hc'⟩
  next h => exact ⟨_, rfl, fun _ => rfl, fun hi hu => absurd ⟨hi, hu⟩ h⟩

theorem appendControl_ports_ne {p p' : Port} (e : ControlEntry) (s : State) (h : p' ≠ p) :
    (appendControl p e s).ports[p'] = s.ports[p'] := by
  rw [appendControl, arbitrate_ports_ne _ h, modPort_ports_ne _ _ h]

/-- An appended CONTROL entry stands at the tail, and starts at once on an idle transmitter with nothing before it. -/
theorem appendControl_ports_self (p : Port) (e : ControlEntry) (s : State) :
    ∃ tx, (appendControl p e s).ports[p] = { s.ports[p] with control := s.ports[p].control ++ [e], tx := tx } ∧
      (s.ports[p].tx ≠ .idle → tx = s.ports[p].tx) ∧
      (s.ports[p].tx = .idle → s.ports[p].link = .up → s.ports[p].control = [] →
        tx = .sending .control (controlCell s e)) := by
  obtain ⟨tx, htx, hbusy, hidle⟩ := arbitrate_ports_self p (s.modPort p (fun q => { q with control := q.control ++ [e] }))
  rw [modPort_ports_self] at htx hbusy hidle
  refine ⟨tx, htx, hbusy, fun hi hu hc => ?_⟩
  rw [hidle hi hu e [] (congrArg (· ++ [e]) hc)]
  cases e <;> rfl

/-- The cell of a RESPONSE entry whose slot has just been filled. -/
theorem controlCell_fillSlot (r : RespId) (x : Response) (s : State) :
    controlCell (fillSlot r x s) (.response r) = responseCell x := by
  simp [controlCell, fillSlot]

/-- A response is placed on its port or discarded as R166 says. -/
theorem responded_respond (r : RespId) (q : Request) (code : Byte) (st : Status) (data : List Byte) (s : State) :
    Responded r q (responseFor s q code st data) s (respond r q code st data s) := by
  unfold respond
  split
  next h =>
    have hd : Deliverable s q := (deliverable_iff s q).mp h
    refine ⟨fun p hp => appendControl_ports_ne _ _ hp, fun _ => ⟨by simp [fillSlot, responseTo, responseFor], ?_⟩,
      fun hn => absurd hd hn⟩
    obtain ⟨tx, hport, hbusy, hidle⟩ :=
      appendControl_ports_self q.port (.response r) (fillSlot r (responseTo q code st data s) s)
    refine ⟨tx, hport, hbusy, fun hi hc => ?_⟩
    rw [hidle hi hd.2.1 hc, controlCell_fillSlot]
    rfl
  next h =>
    have hd : ¬ Deliverable s q := fun hd => h ((deliverable_iff s q).mpr hd)
    refine ⟨fun p hp => modPort_ports_ne _ _ hp, fun hy => absurd hy hd, fun _ => ⟨rfl, modPort_ports_self _ _ _⟩⟩

/-- Where a response stands is read from the ports, the slots and the active Part record alone. -/
theorem Responded.congr {r : RespId} {q : Request} {x : Response} {s s' t t' : State} (h : Responded r q x s t)
    (hsports : s'.ports = s.ports) (hsslots : s'.me.slots = s.me.slots) (hspart : s'.part = s.part)
    (htports : t'.ports = t.ports) (htslots : t'.me.slots = t.me.slots) : Responded r q x s' t' := by
  unfold Responded Deliverable at *
  rwa [hsports, hsslots, hspart, htports, htslots]

/-! ### The way through ME of a request that is neither malformed nor a duplicate (R164, R165, R173) -/

/-- The state in which a taken request is decided: it has left the queue, and a holder's claim is renewed. -/
def accepted (q : Request) (rest : List Request) (s : State) : State :=
  renewClaim q (s.modMe (fun m => { m with requests := rest }))

/-- A fresh answer's way out: the response, then the cache. -/
def answerWith (r : RespId) (q : Request) (st : Status) (data : List Byte) (s : State) : State :=
  updateCache q (requestCode q) st data (respond r q (requestCode q) st data s)

@[simp] theorem accepted_banks (q : Request) (rest : List Request) (s : State) :
    (accepted q rest s).banks = s.banks := by simp [accepted]

@[simp] theorem answerWith_banks (r : RespId) (q : Request) (st : Status) (data : List Byte) (s : State) :
    (answerWith r q st data s).banks = s.banks := by simp [answerWith]

theorem accepted_claim (q : Request) (rest : List Request) (s : State) :
    (accepted q rest s).me.claim = renewed s q := by
  rw [accepted, renewClaim_claim]
  rfl

/-- A change of the banks that keeps the active Part record, and with it the lease, can be made before the acceptance. -/
theorem accepted_modBanks (q : Request) (rest : List Request) (s : State) (f : Banks → Banks)
    (hpart : (f s.banks).active.part = s.banks.active.part) :
    (accepted q rest s).modBanks f = accepted q rest (s.modBanks f) := by
  by_cases h : s.me.claim.holder = some (controllerTag q) <;>
    simp [accepted, renewClaim, fromHolder, h, State.part, State.modMe, State.modBanks, hpart]

/-- The cache after a fresh answer holds a holder's answer, and otherwise what it held (R173). -/
theorem updateCache_cache (q : Request) (code : Byte) (st : Status) (data : List Byte) (s : State) :
    (updateCache q code st data s).me.cache =
      if s.me.claim.holder = some (controllerTag q) then some ⟨transactionTag q, code, st, data⟩ else s.me.cache := by
  unfold updateCache
  simp only [fromHolder, beq_iff_eq]
  split <;> rfl

/-- A request that passes steps 1 and 3 of R165 is decided afresh. -/
theorem processRequest_of_passes {q : Request} {s : State} (r : RespId) (name : Option RequestName)
    (body : Request → State → Answer) (h : Passes s q) :
    processRequest r name body q s = answerFresh r name body q (renewClaim q s) := by
  obtain ⟨htag, hnew⟩ := h
  rcases processRequest_cases r name body q s with ⟨h0, -⟩ | ⟨-, e, hf, hc, ht, -⟩ | ⟨-, -, hfresh⟩
  · exact absurd h0 htag
  · exact absurd ⟨(fromHolder_iff q s).mp hf, hc, ht⟩ (hnew e)
  · exact hfresh

/-- ME takes the request whose row is asked for. -/
theorem takeRequest_of_takes {s : State} {name : Option RequestName} {q : Request} {rest : List Request} {r : RespId}
    (body : Request → State → Answer) (h : Takes s name q rest r) :
    takeRequest name body s = processRequest r name body q (s.modMe (fun m => { m with requests := rest })) := by
  obtain ⟨hq, hr, hreset, hname⟩ := h
  simp [takeRequest, hq, hr, hreset, hname]

/-- The body decides a holder's request (R165, steps 5 and 6). -/
theorem decideRequest_of_holder {q : Request} {s : State} (n : RequestName) (body : Request → State → Answer)
    (h : ByHolder s q) : decideRequest (some n) body q s = body q s := by
  rw [decideRequest, (fromHolder_iff q s).mpr h]
  simp

/-- A holder's request that passes is answered as its body decides in the accepted state. -/
theorem takeRequest_of_holder {s : State} {n : RequestName} {q : Request} {rest : List Request} {r : RespId}
    (body : Request → State → Answer) (htake : Takes s (some n) q rest r) (hpass : Passes s q) (hholder : ByHolder s q) :
    takeRequest (some n) body s =
      answerWith r q (body q (accepted q rest s)).status (body q (accepted q rest s)).data
        (body q (accepted q rest s)).state := by
  have hpass' : Passes (s.modMe (fun m => { m with requests := rest })) q := hpass
  have hholder' : ByHolder (accepted q rest s) q := by simpa [ByHolder, accepted] using hholder
  rw [takeRequest_of_takes body htake, processRequest_of_passes r _ body hpass',
    ← decideRequest_of_holder n body hholder']
  rfl

/-- An answer given without another effect than the acceptance leaves what R165, R166 and R173 say. -/
theorem answered_accepted (q : Request) (rest : List Request) (r : RespId) (st : Status) (data : List Byte) (s : State) :
    Answered q rest r st data s (answerWith r q st data (accepted q rest s)) := by
  have hclaim : (answerWith r q st data (accepted q rest s)).me.claim = renewed s q := by
    simp [answerWith, accepted_claim]
  have hcache : (answerWith r q st data (accepted q rest s)).me.cache =
      if s.me.claim.holder = some (controllerTag q) then some ⟨transactionTag q, requestCode q, st, data⟩
      else s.me.cache := by
    simp [answerWith, updateCache_cache, accepted]
  have hresponse : Responded r q (responseFor s q (requestCode q) st data) s
      (answerWith r q st data (accepted q rest s)) := by
    have h := responded_respond r q (requestCode q) st data (accepted q rest s)
    have hfor : responseFor (accepted q rest s) q (requestCode q) st data = responseFor s q (requestCode q) st data := by
      simp [responseFor, accepted]
    rw [hfor] at h
    exact h.congr (by simp [accepted]) (by simp [accepted]) (by simp [State.part]) (by simp [answerWith])
      (by simp [answerWith])
  refine ⟨?_, ?_, ?_, ?_, ?_, ?_, ?_, ?_, ?_, ?_, ?_, ?_, hclaim, hcache, hresponse⟩ <;> simp [answerWith, accepted]

/-- Of the banks, an answer depends on the active Part record alone. -/
theorem Answered.withBanks {q : Request} {rest : List Request} {r : RespId} {st : Status} {data : List Byte}
    {s t : State} (h : Answered q rest r st data s t) (b : Banks) (hpart : b.active.part = s.part) :
    Answered q rest r st data { s with banks := b } { t with banks := b } := by
  obtain ⟨hpt, htf, hgroups, hstreams, hpool, -, hpending, hreq, hreset, hnot, hnum, hover, hclaim, hcache, hresp⟩ := h
  have hrenewed : renewed { s with banks := b } q = renewed s q := by
    have hsame : State.part { s with banks := b } = s.part := hpart
    rw [renewed, hsame, renewed]
  exact ⟨hpt, htf, hgroups, hstreams, hpool, rfl, hpending, hreq, hreset, hnot, hnum, hover, hclaim.trans hrenewed.symm,
    hcache, hresp.congr rfl rfl hpart rfl rfl⟩

/-! ### CANCEL (R121) -/

theorem exec_cancel (s : State) :
    exec .cancel s = .next (takeRequest (some .cancel) (fun _ t => cancelCommit t) s) := rfl

theorem cancelCommit_of_armed {s : State} (h : s.banks.state = .armed) :
    cancelCommit s = done (s.modBanks (fun b => { b with state := .idle })) := by
  simp [cancelCommit, h]

theorem cancelCommit_of_not_armed {s : State} (h : s.banks.state ≠ .armed) : cancelCommit s = refuse .notArmed s := by
  unfold cancelCommit
  split
  next harmed => exact absurd harmed h
  all_goals rfl

/-- CANCEL in ARMED is the answer OK to the same request in the state already disarmed. -/
theorem exec_cancel_of_armed {s : State} {q : Request} {rest : List Request} {r : RespId}
    (htake : Takes s (some .cancel) q rest r) (hpass : Passes s q) (hholder : ByHolder s q)
    (harmed : s.banks.state = .armed) :
    exec .cancel s =
      .next (answerWith r q .ok [] (accepted q rest (s.modBanks (fun b => { b with state := .idle })))) := by
  have hdecided : cancelCommit (accepted q rest s) =
      done (accepted q rest (s.modBanks (fun b => { b with state := .idle }))) := by
    rw [cancelCommit_of_armed (by simpa using harmed), accepted_modBanks q rest s _ rfl]
  rw [exec_cancel, takeRequest_of_holder _ htake hpass hholder, hdecided]
  rfl

/-- CANCEL in IDLE and REFRESH is the answer NOT_ARMED without another effect. -/
theorem exec_cancel_of_not_armed {s : State} {q : Request} {rest : List Request} {r : RespId}
    (htake : Takes s (some .cancel) q rest r) (hpass : Passes s q) (hholder : ByHolder s q)
    (hnot : s.banks.state ≠ .armed) :
    exec .cancel s = .next (answerWith r q .notArmed [] (accepted q rest s)) := by
  have hdecided : cancelCommit (accepted q rest s) = refuse .notArmed (accepted q rest s) :=
    cancelCommit_of_not_armed (by simpa using hnot)
  rw [exec_cancel, takeRequest_of_holder _ htake hpass hholder, hdecided]
  rfl

/-- Settles O58: in ARMED the answer is that of the disarmed state, carried back over the banks; otherwise the decision
leaves the state as it was accepted. -/
theorem cancelDisarms : Obligations.CancelDisarms := by
  intro s q rest r hpass hholder htake
  refine ⟨fun harmed => ?_, fun hnot => ?_⟩
  · refine ⟨_, exec_cancel_of_armed htake hpass hholder harmed, by simp, ?_⟩
    exact (answered_accepted q rest r .ok [] (s.modBanks (fun b => { b with state := .idle }))).withBanks s.banks rfl
  · exact ⟨_, exec_cancel_of_not_armed htake hpass hholder hnot, answered_accepted q rest r .notArmed [] s⟩

end Sys2Proof.Machine
end

section
/-! The three cases of R181, read off the notice queue before the queueing. -/

namespace Sys2Proof.Machine

/-! ### The notice of a kind and subject in the queue -/

/-- A notice found is the first of its kind and subject, and its removal leaves the notices around it. -/
theorem find?_topic_eq_some {l : List Notice} {t : Topic} {old : Notice}
    (hfound : l.find? (fun n => n.topic == t) = some old) :
    ∃ before after, l = before ++ old :: after ∧ old.topic = t ∧ (∀ n ∈ before, n.topic ≠ t) ∧
      l.eraseP (fun n => n.topic == t) = before ++ after := by
  obtain ⟨hold, before, after, rfl, hbefore⟩ := List.find?_eq_some_iff_append.mp hfound
  have hfirst : ∀ n ∈ before, n.topic ≠ t := by simpa using hbefore
  refine ⟨before, after, rfl, by simpa using hold, hfirst, ?_⟩
  rw [List.eraseP_append_right _ (by simpa using hfirst),
    List.eraseP_cons_of_pos (p := fun n : Notice => n.topic == t) hold]

theorem find?_topic_eq_none {l : List Notice} {t : Topic} :
    l.find? (fun n => n.topic == t) = none ↔ ∀ n ∈ l, n.topic ≠ t := by
  simp

/-- The repeat count of a replacement is one higher, saturating at 255. -/
theorem min_repeats (n : Nat) : min 255 (n + 1) = if n < 255 then n + 1 else 255 := by
  split <;> omega

/-! ### Queueing (R181) -/

theorem noticeQueued_enqueueNotice (t : Topic) (pl : NoticePayload) (m : Management) :
    NoticeQueued t pl m (enqueueNotice t pl m) := by
  obtain ⟨hreq, hslots, hreset, hclaim, hcache⟩ := enqueueNotice_frame t pl m
  refine ⟨hreq, hslots, hreset, hclaim, hcache, ?_⟩
  rcases enqueueNotice_cases t pl m with
    ⟨old, hfound, hnotices, hnumber, hover⟩ | ⟨habsent, hfull, hdropped⟩ | ⟨habsent, hroom, happended⟩
  case inl =>
    obtain ⟨before, after, hsplit, htopic, hfirst, herased⟩ := find?_topic_eq_some hfound
    rw [herased, min_repeats] at hnotices
    exact .inl ⟨before, old, after, hsplit, htopic, hfirst, hnotices, hnumber, hover⟩
  case inr.inl =>
    rw [hdropped]
    exact .inr (.inl ⟨find?_topic_eq_none.mp habsent, hfull, rfl, rfl, rfl⟩)
  case inr.inr =>
    exact .inr (.inr ⟨find?_topic_eq_none.mp habsent, hroom, happended⟩)

/-- Settles O49: a block's notice reaches the state through ME alone, which takes it by the three cases of R181. -/
theorem noticesAreQueued : Obligations.NoticesAreQueued := by
  intro t pl s
  exact ⟨noticeQueued_enqueueNotice t pl s.me, rfl⟩

end Sys2Proof.Machine
end

section
/-!
The queue of commands (O1 to O3): how a step reaches exec, and that no command stops the part or changes the queue.
-/

namespace Sys2Proof.Machine

/-- Settles O1: a step on a queue with a front command is that command's meaning. -/
theorem stepRunsTheFrontCommand : Obligations.StepRunsTheFrontCommand := fun _ _ => rfl

/-- Settles O2: a step on an empty queue is the first case of its definition. -/
theorem emptyQueueIdles : Obligations.EmptyQueueIdles := by
  intro s hempty
  rw [step, hempty]

theorem carryStep_pending (closes : ForcedCloses) (sch : List BoundaryAct) (s : State) :
    (carryStep closes sch s).pending = s.pending := by
  rcases carryStep_cases closes sch s with ⟨-, e⟩ | ⟨l, -, e, -⟩ | ⟨n, l, -, -, -, e⟩ <;> rw [e] <;> simp

/-- TBC's decisions on writes and commits reach the banks alone, and not the active one. -/
theorem table_bodies_frame (q : Request) (s : State) :
    (∃ f, (writeStreamRecord q s).state = s.modBanks f ∧ (f s.banks).active = s.banks.active) ∧
    (∃ f, (writeGroupRecord q s).state = s.modBanks f ∧ (f s.banks).active = s.banks.active) ∧
    (∃ f, (writePartRecord q s).state = s.modBanks f ∧ (f s.banks).active = s.banks.active) ∧
    (∃ f, (commitShadow s).state = s.modBanks f ∧ (f s.banks).active = s.banks.active) ∧
    (∃ f, (cancelCommit s).state = s.modBanks f ∧ (f s.banks).active = s.banks.active) := by
  refine ⟨?_, ?_, ?_, ?_, ?_⟩
  · rcases writeStreamRecord_cases q s with e | ⟨i, r, -, -, e⟩
    exacts [⟨id, e, rfl⟩, ⟨_, e, rfl⟩]
  · rcases writeGroupRecord_cases q s with e | ⟨g, r, -, -, e⟩
    exacts [⟨id, e, rfl⟩, ⟨_, e, rfl⟩]
  · rcases writePartRecord_cases q s with e | ⟨r, -, -, e⟩
    exacts [⟨id, e, rfl⟩, ⟨_, e, rfl⟩]
  · rcases commitShadow_cases s with e | ⟨-, -, e⟩
    exacts [⟨id, e, rfl⟩, ⟨_, e, rfl⟩]
  · rcases cancelCommit_cases s with e | ⟨-, e⟩
    exacts [⟨id, e, rfl⟩, ⟨_, e, rfl⟩]

/-- ME keeps the bounds of its queues and the distinctness of its notices: `ManagementInv` as a property of ME. -/
def Management.sound (m : Management) : Prop :=
  m.requests.length ≤ 4 ∧ (m.claim.holder = none → m.cache = none) ∧
  m.notices.length ≤ 16 ∧ (m.notices.map (·.topic)).Nodup ∧
  ∀ n ∈ m.notices, 1 ≤ n.repeats ∧ n.repeats ≤ 255 ∧ ∀ a, n.age = some a → a ≤ 65535

theorem managementInv_iff (s : State) : ManagementInv s ↔ s.me.sound := Iff.rfl

/-- What the body of any request leaves alone: PT, the pool, the queues and slots, the active bank, the queue of
commands; and that it keeps ME sound. -/
structure BodyFrame (body : Request → State → Answer) : Prop where
  active : ∀ q s, (body q s).state.banks.active = s.banks.active
  sound : ∀ q s, s.me.sound → (body q s).state.me.sound
  pt : ∀ q s, (body q s).state.pt = s.pt
  pool : ∀ q s, (body q s).state.pool = s.pool
  pending : ∀ q s, (body q s).state.pending = s.pending
  slots : ∀ q s, (body q s).state.me.slots = s.me.slots
  requests : ∀ q s, (body q s).state.me.requests = s.me.requests
  tfState : ∀ q s, (body q s).state.tf.state = s.tf.state
  handed : ∀ q s, (body q s).state.tf.handed = s.tf.handed
  groupState : ∀ q s (g : GroupId), (body q s).state.groups[g].state = s.groups[g].state
  ports : ∀ q s (p : Port), ∃ c, (body q s).state.ports[p] = { s.ports[p] with counters := c }

theorem BodyFrame.of_modBanks {body : Request → State → Answer}
    (h : ∀ q s, ∃ f, (body q s).state = s.modBanks f ∧ (f s.banks).active = s.banks.active) : BodyFrame body := by
  constructor <;> intro q s <;> obtain ⟨f, e, hactive⟩ := h q s
  case active => rw [e]; exact hactive
  case sound => intro hs; rw [e]; exact hs
  case groupState => intro g; rw [e]; rfl
  case ports => intro p; rw [e]; exact ⟨_, rfl⟩
  all_goals rw [e]; rfl

theorem BodyFrame.of_state {body : Request → State → Answer} (h : ∀ q s, (body q s).state = s) : BodyFrame body :=
  .of_modBanks (fun q s => ⟨id, h q s, rfl⟩)

theorem BodyFrame.of_modMe {body : Request → State → Answer}
    (h : ∀ q s, ∃ f, (body q s).state = s.modMe f ∧ (f s.me).slots = s.me.slots ∧
      (f s.me).requests = s.me.requests ∧ (s.me.sound → (f s.me).sound)) :
    BodyFrame body := by
  constructor <;> intro q s <;> obtain ⟨f, e, hslots, hreq, hsound⟩ := h q s
  case sound => intro hs; rw [e]; exact hsound hs
  case groupState => intro g; rw [e]; rfl
  case ports => intro p; rw [e]; exact ⟨_, rfl⟩
  case slots => rw [e]; exact hslots
  case requests => rw [e]; exact hreq
  all_goals rw [e]; rfl

/-- Every notice due again (R169): ME stays sound. -/
theorem Management.sound.ageless {m : Management} (h : m.sound) (c : Claim) :
    Management.sound { m with
      claim := c, cache := none, notices := m.notices.map (fun n : Notice => { n with age := none }) } := by
  obtain ⟨hreq, -, hlen, hnodup, hall⟩ := h
  refine ⟨hreq, fun _ => rfl, by simpa using hlen, by simpa [List.map_map, Function.comp_def] using hnodup, ?_⟩
  intro n hn
  obtain ⟨n', hn', rfl⟩ := List.mem_map.mp hn
  exact ⟨(hall n' hn').1, (hall n' hn').2.1, nofun⟩

/-- The acknowledgement of notices keeps ME sound (R184). -/
theorem Management.sound.drop {m : Management} (h : m.sound) (k : Nat) :
    Management.sound { m with notices := m.notices.drop k } := by
  obtain ⟨hreq, hcache, hlen, hnodup, hall⟩ := h
  refine ⟨hreq, hcache, ?_, ?_, fun n hn => hall n (List.mem_of_mem_drop hn)⟩
  · exact (List.length_drop ▸ Nat.sub_le _ _ : (m.notices.drop k).length ≤ m.notices.length).trans hlen
  · exact hnodup.sublist ((List.drop_sublist k _).map _)

theorem claimBody_modMe (q : Request) (s : State) : ∃ f, (claimBody q s).state = s.modMe f ∧
    (f s.me).slots = s.me.slots ∧ (f s.me).requests = s.me.requests ∧ (s.me.sound → (f s.me).sound) := by
  unfold claimBody
  split
  next => exact ⟨fun m => { m with
      claim := { holder := some (controllerTag q), port := q.port, noticeId := replyId q, lease := s.part.leaseLen }
      cache := none
      notices := m.notices.map (fun n => { n with age := none }) }, rfl, rfl, rfl, fun h => h.ageless _⟩
  next tag _ =>
    split
    · exact ⟨fun m => { m with claim := { m.claim with noticeId := replyId q } }, rfl, rfl, rfl, id⟩
    · exact ⟨id, rfl, rfl, rfl, id⟩

theorem clearOne_cases {n : Nat} (i : Nat) (f : Fin n → State → State) (s : State) :
    (clearOne i f s = refuse .badIndex s ∧ n ≤ i) ∨ ∃ k : Fin n, i = k.val ∧ clearOne i f s = done (f k s) := by
  unfold clearOne indexBelow
  by_cases h : i < n
  · rw [dif_pos h]
    exact .inr ⟨⟨i, h⟩, rfl, rfl⟩
  · rw [dif_neg h]
    exact .inl ⟨rfl, Nat.le_of_not_lt h⟩

/-- What CLEAR_COUNTERS does, by its scope. -/
theorem clearCountersBody_cases (q : Request) (s : State) :
    (clearCountersBody q s).state = s ∨ (clearCountersBody q s).state = clearAll s ∨
    (∃ p, (clearCountersBody q s).state = clearPort p s) ∨ (∃ i, (clearCountersBody q s).state = clearStream i s) ∨
    ∃ g, (clearCountersBody q s).state = clearGroup g s := by
  unfold clearCountersBody
  split
  · exact .inr (.inl rfl)
  · rcases clearOne_cases (argHalf q 21) clearPort s with ⟨e, -⟩ | ⟨k, -, e⟩ <;> rw [e]
    exacts [.inl rfl, .inr (.inr (.inl ⟨k, rfl⟩))]
  · rcases clearOne_cases (argHalf q 21) clearStream s with ⟨e, -⟩ | ⟨k, -, e⟩ <;> rw [e]
    exacts [.inl rfl, .inr (.inr (.inr (.inl ⟨k, rfl⟩)))]
  · rcases clearOne_cases (argHalf q 21) clearGroup s with ⟨e, -⟩ | ⟨k, -, e⟩ <;> rw [e]
    exacts [.inl rfl, .inr (.inr (.inr (.inr ⟨k, rfl⟩)))]
  · exact .inl rfl

theorem clearCountersBody_handed (q : Request) (s : State) :
    (clearCountersBody q s).state.tf.handed = s.tf.handed := by
  rcases clearCountersBody_cases q s with e | e | ⟨p, e⟩ | ⟨i, e⟩ | ⟨g, e⟩ <;> rw [e] <;> rfl

theorem clearCountersBody_ports (q : Request) (s : State) (p : Port) :
    ∃ c, (clearCountersBody q s).state.ports[p] = { s.ports[p] with counters := c } := by
  rcases clearCountersBody_cases q s with e | e | ⟨k, e⟩ | ⟨i, e⟩ | ⟨g, e⟩ <;> rw [e]
  · exact ⟨_, rfl⟩
  · exact ⟨_, ofFn_get _ p⟩
  · by_cases h : p = k
    · subst h; exact ⟨_, modPort_ports_self _ _ _⟩
    · exact ⟨_, modPort_ports_ne _ _ h⟩
  · exact ⟨_, rfl⟩
  · exact ⟨_, rfl⟩

theorem clearAll_groups (s : State) : (clearAll s).groups =
    Vector.ofFn (fun g : GroupId => { s.groups[g] with counters := GroupCounters.zero }) := rfl

theorem clearCountersBody_groupState (q : Request) (s : State) (g : GroupId) :
    (clearCountersBody q s).state.groups[g].state = s.groups[g].state := by
  rcases clearCountersBody_cases q s with e | e | ⟨p, e⟩ | ⟨i, e⟩ | ⟨k, e⟩ <;> rw [e]
  · rw [clearAll_groups, ofFn_get]
  · rfl
  · rfl
  · exact modGroup_state _ _ _ _ (fun _ => rfl)

theorem bodyFrame_clearCounters : BodyFrame clearCountersBody where
  active q s := by simp
  sound q s h := by simpa using h
  pt q s := (clearCountersBody_frame q s).1
  pool q s := (clearCountersBody_frame q s).2.1
  pending q s := by simp
  slots q s := by simp
  requests q s := by simp
  tfState q s := by simp
  handed := clearCountersBody_handed
  groupState := clearCountersBody_groupState
  ports := clearCountersBody_ports

/-- The notices at the head that an acknowledgement by number `n` covers (R184). -/
def acknowledged (n : Half) (l : List Notice) : List Notice := l.takeWhile (fun x => acknowledges n x.number)

theorem ackNoticeBody_state (q : Request) (s : State) : (ackNoticeBody q s).state =
    s.modMe (fun m => { m with notices := m.notices.drop (acknowledged (cellHalf q.cell 20) s.me.notices).length }) := rfl

/-- The commands that are not requests: events of the part. -/
def Instr.isEvent (c : Instr) : Bool :=
  match c with
  | .powerOnReset | .softReset | .tickEnd | .boundary _ | .claimExpired | .syncMissing | .refreshCopy
  | .refreshComplete | .openWindow _ | .closeWindow _ | .syncTaken _ _ | .signalDetected _ | .signalLost _ _
  | .aligned _ | .unaligned _ _ | .cellReceived _ _ _ | .txComplete _ => true
  | _ => false

/-- A request's command takes a request of its row, with a body that keeps the frame of all bodies. -/
theorem exec_request {c : Instr} (h : Instr.isEvent c = false) :
    ∃ name body, BodyFrame body ∧ ∀ s, exec c s = .next (takeRequest name body s) := by
  cases c <;> simp only [Instr.isEvent, reduceCtorEq] at h <;> refine ⟨_, _, ?_, fun s => rfl⟩
  case claim => exact .of_modMe claimBody_modMe
  case release =>
    exact .of_modMe (fun _ _ =>
      ⟨fun m => { m with claim := { m.claim with holder := none }, cache := none }, rfl, rfl, rfl,
        fun ⟨hreq, _, hrest⟩ => ⟨hreq, fun _ => rfl, hrest⟩⟩)
  case ackNotice => exact .of_modMe (fun _ _ => ⟨_, ackNoticeBody_state _ _, rfl, rfl, fun h => h.drop _⟩)
  case reset => exact .of_modMe (fun _ _ => ⟨fun m => { m with resetting := true }, rfl, rfl, rfl, id⟩)
  case writeStream => exact .of_modBanks (fun q s => (table_bodies_frame q s).1)
  case writeGroup => exact .of_modBanks (fun q s => (table_bodies_frame q s).2.1)
  case writePart => exact .of_modBanks (fun q s => (table_bodies_frame q s).2.2.1)
  case commit => exact .of_modBanks (fun q s => (table_bodies_frame q s).2.2.2.1)
  case cancel => exact .of_modBanks (fun q s => (table_bodies_frame q s).2.2.2.2)
  case clearCounters => exact bodyFrame_clearCounters
  case badRequest => exact .of_state (fun q s => rfl)
  all_goals exact .of_state (fun q s => by simp)

/-- The scheme for the requests' commands: what the way through ME and the body of every request keep, they keep. -/
theorem takeRequest_frame_keeps {body : Request → State → Answer} (hb : BodyFrame body) (P : State → Prop)
    (name : Option RequestName) (s : State) (h0 : P s)
    (hpop : ∀ q rest, s.me.requests = q :: rest → P (s.modMe (fun m => { m with requests := rest })))
    (hrenew : ∀ q t, P t → P (renewClaim q t))
    (hrespond : ∀ r q code st data t, t.me.slots[r] = none → P t → P (respond r q code st data t))
    (hcache : ∀ q code st data t, P t → P (updateCache q code st data t))
    (hbody : ∀ q t, P t → P (body q t).state) : P (takeRequest name body s) :=
  takeRequest_keeps P name body s h0 hpop hrenew hrespond hcache hbody hb.slots

theorem takeRequest_pending {body : Request → State → Answer} (hb : BodyFrame body) (name : Option RequestName)
    (s : State) : (takeRequest name body s).pending = s.pending := by
  refine takeRequest_frame_keeps hb (fun t => t.pending = s.pending) name s rfl ?_ ?_ ?_ ?_ ?_
  · intro q rest _; rfl
  · intro q t h; simpa using h
  · intro r q code st data t _ h; simpa using h
  · intro q code st data t h; simpa using h
  · intro q t h; rw [hb.pending, h]

/-- Settles O3, by the frame of each event and of the requests' scheme. -/
theorem commandsCompleteAndKeepTheQueue : Obligations.CommandsCompleteAndKeepTheQueue := by
  intro c s
  by_cases hc : Instr.isEvent c = false
  · obtain ⟨name, body, hb, he⟩ := exec_request hc
    exact ⟨_, he s, takeRequest_pending hb name s⟩
  cases c <;> first | exact absurd rfl hc | skip
  case powerOnReset => exact ⟨_, rfl, rfl⟩
  case softReset => simp only [exec, execSoftReset]; split <;> exact ⟨_, rfl, rfl⟩
  case tickEnd => simp only [exec, execTickEnd]; split <;> exact ⟨_, rfl, by simp⟩
  case boundary => simp only [exec, execBoundary]; split <;> exact ⟨_, rfl, by simp⟩
  case claimExpired =>
    simp only [exec, execClaimExpired]
    split
    · split <;> exact ⟨_, rfl, by simp⟩
    · exact ⟨_, rfl, rfl⟩
  case syncMissing => simp only [exec, execSyncMissing]; split <;> exact ⟨_, rfl, rfl⟩
  case refreshCopy => simp only [exec, execRefreshCopy]; split <;> exact ⟨_, rfl, rfl⟩
  case refreshComplete => simp only [exec, execRefreshComplete]; split <;> exact ⟨_, rfl, rfl⟩
  case openWindow => exact ⟨_, rfl, by split <;> simp⟩
  case closeWindow => exact ⟨_, rfl, by split <;> simp⟩
  case syncTaken => exact ⟨_, rfl, by simp [carryStep_pending]⟩
  case signalDetected => exact ⟨_, rfl, rfl⟩
  case signalLost => simp only [exec, execSignalLost]; split <;> exact ⟨_, rfl, by simp⟩
  case aligned => simp only [exec, execAligned]; split <;> exact ⟨_, rfl, rfl⟩
  case unaligned => simp only [exec, execUnaligned]; split <;> exact ⟨_, rfl, by simp⟩
  case cellReceived =>
    simp only [exec, execCellReceived]
    split
    · split <;> exact ⟨_, rfl, by simp [passCheck]⟩
    · exact ⟨_, rfl, rfl⟩
  case txComplete => simp only [exec, execTxComplete]; split <;> exact ⟨_, rfl, by simp⟩

end Sys2Proof.Machine
end

section
/-!
The resets (O4 to O6), a tick's end (O14), the claim's and the lock's end as commands (O29), the refresh (O30, O31) and
OPEN (O32).
-/

namespace Sys2Proof.Machine

theorem exec_powerOnReset (s : State) : exec .powerOnReset s = .next { State.reset with pending := s.pending } := rfl

/-- Settles O4: every field is the one that State.reset writes down. -/
theorem powerOnResetValues : Obligations.PowerOnResetValues := by
  intro s
  refine ⟨_, exec_powerOnReset s, rfl, rfl, fun g => ?_, fun i => ?_, fun b => ?_, fun p => ?_, rfl, rfl, rfl, fun i => ?_,
    fun g => ?_, rfl, rfl, fun r => ?_, rfl, rfl, rfl, rfl, rfl, rfl⟩
  · simp [State.reset, Accum.powerOn, GroupCounters.zero]
  · simp [State.reset, StreamState.powerOn, StreamCounters.zero]
  · simp [State.reset, Buffer.powerOn]
  · simp [State.reset, PortState.powerOn, PortCounters.zero]
  · simp [State.reset, Banks.powerOn, Bank.default, StreamRec.default]
  · simp [State.reset, Banks.powerOn, Bank.default, GroupRec.default]
  · simp [State.reset, Management.afterReset]

/-! ### The soft reset (R187) -/

theorem isIdentity_identityResult (r : GroupRec) : IsIdentity r (identityResult r) := by
  unfold IsIdentity identityResult
  cases r.op <;> simp [Config.minSample, Config.maxSample]

/-- No slot holds the RESET response, so the soft reset has begun (R103). -/
theorem softResetDue_of {s : State} (hset : s.me.resetting = true)
    (hnone : ∀ (r : RespId) x, s.me.slots[r] = some x → ¬ (x.code = 23 ∧ x.status = .ok)) : softResetDue s = true := by
  have hslots : s.me.slots.toList.any isResetResponse = false := by
    rw [List.any_eq_false]
    intro o ho
    obtain ⟨i, hi, rfl⟩ := List.getElem_of_mem ho
    have hlen : i < 4 := by simpa using hi
    rcases hslot : s.me.slots[(⟨i, hlen⟩ : RespId)] with _ | x
    · simp_all [isResetResponse]
    · have hx := hnone _ _ hslot
      simp_all [isResetResponse, resetCode]
  simp [softResetDue, hset, hslots]

theorem softResetBanks_frame (b : Banks) :
    (softResetBanks b).active = b.active ∧ (softResetBanks b).shadow = b.shadow ∧
    (softResetBanks b).touchedStreams = b.touchedStreams ∧ (softResetBanks b).touchedGroups = b.touchedGroups ∧
    (softResetBanks b).touchedPart = b.touchedPart ∧ (b.state = .armed → (softResetBanks b).state = .idle) ∧
    (b.state ≠ .armed → (softResetBanks b).state = b.state) ∧ (b.state = .refresh → (softResetBanks b).copyPos = 0) := by
  unfold softResetBanks
  split <;> simp_all

theorem softResetAll_groups (s : State) (g : GroupId) :
    (softResetAll s).groups[g] = softResetGroup (s.groupRec g) := by
  obtain ⟨-, -, -, -, -, hgroups, -⟩ := softResetAll_frame s
  exact hgroups g

theorem softResetAll_ports (s : State) (p : Port) : (softResetAll s).ports[p] = softResetPort s.ports[p] := by
  obtain ⟨-, -, -, -, -, -, -, hports⟩ := softResetAll_frame s
  exact hports p

theorem softResetAll_pool (s : State) (b : BufId) : (softResetAll s).pool[b] = { s.pool[b] with refs := 0 } := by
  obtain ⟨-, -, -, -, -, -, hpool, -⟩ := softResetAll_frame s
  exact hpool b

theorem softResetAll_streams (s : State) (i : StreamId) : (softResetAll s).streams[i] = StreamState.powerOn :=
  Vector.getElem_replicate _

theorem softResetGroup_values (r : GroupRec) :
    (∀ i : Slot, (softResetGroup r).arrived[i] = none ∧ (softResetGroup r).holds[i] = none) ∧
    (softResetGroup r).filled = false ∧ (softResetGroup r).cut = false ∧ (softResetGroup r).emission = 0 ∧
    (softResetGroup r).counters = ⟨0, 0, 0, 0, 0, 0, 0⟩ ∧
    (r.enabled = true → (softResetGroup r).state = .idle ∧ IsIdentity r (softResetGroup r).result) ∧
    (r.enabled = false → (softResetGroup r).state = .off ∧
      ∃ n, (softResetGroup r).result = .values (List.replicate n 0)) := by
  refine ⟨fun i => by simp [softResetGroup, noArrivals, noHolds], rfl, rfl, rfl, rfl, fun h => ?_, fun h => ?_⟩
  · simp [softResetGroup, h, isIdentity_identityResult]
  · simp [softResetGroup, h, zeroResult]

/-- Settles O5: the reset has begun, and each block takes the values of its own reset rule. -/
theorem softResetValues : Obligations.SoftResetValues := by
  intro s hset hnone
  have hexec : exec .softReset s = .next (softResetAll s) := by
    simp only [exec, execSoftReset, if_pos (softResetDue_of hset hnone)]
  obtain ⟨hact, hsh, hts, htg, htp, harm, hkeep, hpos⟩ := softResetBanks_frame s.banks
  refine ⟨_, hexec, rfl, fun h => ?_, fun h => ?_, rfl, fun g => ?_, fun i => ?_, fun b => ?_, fun p => ?_, hact, hsh, hts,
    htg, htp, harm, hkeep, hpos, rfl, fun r => Vector.getElem_replicate _, rfl, rfl, rfl, rfl, rfl, rfl⟩
  · simp [Follower.afterReset, sourceState, State.part, h]
  · simp [Follower.afterReset, sourceState, State.part, h]
  · rw [softResetAll_groups]
    exact softResetGroup_values (s.groupRec g)
  · rw [softResetAll_streams]
    exact ⟨rfl, rfl⟩
  · rw [softResetAll_pool]
  · rw [softResetAll_ports]
    rfl

/-! ### A tick's end, the claim's end, the lock's end -/

/-- Settles O14, by the frame of the copy's ageing. -/
theorem tickEndAdvances : Obligations.TickEndAdvances := by
  intro s hmay hroom
  have hexec : exec .tickEnd s = .next ((ageCopy s).modPt (fun p => { p with tick := p.tick + 1 })) := by
    simp only [exec, execTickEnd, if_pos (And.intro hmay hroom)]
  refine ⟨_, hexec, by simp, by simp, by simp, by simp, by simp, by simp, by simp, by simp, fun h => ?_, fun h => ?_⟩
  · simp [ageCopy, h]
  · simp [ageCopy, h]

/-- Settles O29: both commands are due, and each queues its notice by R181. -/
theorem expiryAndSilenceEnd : Obligations.ExpiryAndSilenceEnd := by
  refine ⟨fun s tag hholder hlease => ?_, fun s hlocked hsilent => ?_⟩
  · have hexec : exec .claimExpired s = .next (expireClaim tag s) := by
      simp only [exec, execClaimExpired, hholder, if_pos hlease]
    exact ⟨_, _, hexec, rfl, rfl, noticeQueued_enqueueNotice _ _ _⟩
  · have hdue : syncMissingDue s = true := by simp [syncMissingDue, hlocked, Config.silentLimit, hsilent]
    have hexec : exec .syncMissing s = .next (loseLockBySilence s) := by
      simp only [exec, execSyncMissing, if_pos hdue]
    exact ⟨_, hexec, rfl, noticeQueued_enqueueNotice _ _ _⟩

/-! ### The refresh (R127) -/

theorem exec_refreshCopy {s : State} (hstate : s.banks.state = .refresh) (hpos : s.banks.copyPos < 1089) :
    exec .refreshCopy s = .next (s.modBanks copyPosition) := if_pos ⟨hstate, hpos⟩

theorem indexBelow_of_lt {n i : Nat} (h : i < n) : indexBelow n i = some ⟨i, h⟩ := dif_pos h

theorem indexBelow_of_le {n i : Nat} (h : n ≤ i) : indexBelow n i = none := dif_neg (Nat.not_lt_of_le h)

/-- The three kinds of position, in the order of the refresh. -/
theorem copyPosition_cases (b : Banks) :
    (∃ i : StreamId, b.copyPos = i.val ∧ copyPosition b = { b with
      shadow := { b.shadow with streams := b.shadow.streams.set i.val b.active.streams[i] i.isLt }
      touchedStreams := b.touchedStreams.set i.val false i.isLt
      copyPos := b.copyPos + 1 }) ∨
    (∃ g : GroupId, b.copyPos = 1024 + g.val ∧ copyPosition b = { b with
      shadow := { b.shadow with groups := b.shadow.groups.set g.val b.active.groups[g] g.isLt }
      touchedGroups := b.touchedGroups.set g.val false g.isLt
      copyPos := b.copyPos + 1 }) ∨
    (1088 ≤ b.copyPos ∧ copyPosition b = { b with
      shadow := { b.shadow with part := b.active.part }, touchedPart := false, copyPos := b.copyPos + 1 }) := by
  unfold copyPosition
  by_cases hs : b.copyPos < 1024
  · rw [indexBelow_of_lt hs]
    exact .inl ⟨⟨_, hs⟩, rfl, rfl⟩
  rw [indexBelow_of_le (Nat.le_of_not_lt hs)]
  by_cases hg : b.copyPos - 1024 < 64
  · rw [indexBelow_of_lt hg]
    exact .inr (.inl ⟨⟨_, hg⟩, by show b.copyPos = 1024 + (b.copyPos - 1024); omega, rfl⟩)
  · rw [indexBelow_of_le (Nat.le_of_not_lt hg)]
    exact .inr (.inr ⟨by omega, rfl⟩)

/-- Settles O30, position by position. -/
theorem refreshCopiesThePosition : Obligations.RefreshCopiesThePosition := by
  intro s hstate hpos
  have hexec := exec_refreshCopy hstate (by omega)
  rcases copyPosition_cases s.banks with ⟨i, hi, e⟩ | ⟨g, hg, e⟩ | ⟨hp, e⟩ <;> rw [State.modBanks, e] at hexec <;>
    refine ⟨_, hexec, rfl, rfl, hstate, rfl, rfl, fun j => ?_, fun h => ?_, fun hq => ?_, fun hq => ?_⟩
  all_goals first | exact ⟨rfl, rfl⟩ | skip
  · rw [set_get, set_get, hi]
    by_cases hj : i = j
    · subst hj; simp
    · simp [hj, Fin.val_ne_of_ne (Ne.symm hj)]
  · exact ⟨fun hq => by omega, fun _ => ⟨rfl, rfl⟩⟩
  · omega
  · exact ⟨fun hq => by omega, fun _ => ⟨rfl, rfl⟩⟩
  · rw [set_get, set_get, hg]
    by_cases hj : g = h
    · subst hj; simp
    · have hne : h.val ≠ g.val := Fin.val_ne_of_ne (Ne.symm hj)
      simp [hj, hne]
  · omega
  · exact ⟨fun hq => by omega, fun _ => ⟨rfl, rfl⟩⟩
  · exact ⟨fun hq => by omega, fun _ => ⟨rfl, rfl⟩⟩
  · omega

theorem bank_ext {b c : Bank} (hstreams : ∀ i : StreamId, b.streams[i] = c.streams[i])
    (hgroups : ∀ g : GroupId, b.groups[g] = c.groups[g]) (hpart : b.part = c.part) : b = c := by
  cases b; cases c
  obtain rfl := hpart
  obtain rfl := vec_ext hstreams
  obtain rfl := vec_ext hgroups
  rfl

/-- Settles O31: with every position copied no mark is left, and an unmarked position is equal in both banks. -/
theorem refreshCompletesWithEqualBanks : Obligations.RefreshCompletesWithEqualBanks := by
  intro s hstate hpos
  have hexec : exec .refreshComplete s = .next (s.modBanks (fun b => { b with state := .idle })) :=
    if_pos ⟨hstate, by rw [hpos]; decide⟩
  refine ⟨_, hexec, rfl, fun ⟨hstreams, hgroups, hpart, hcopied⟩ => ?_⟩
  obtain ⟨hts, htg, htp⟩ := hcopied hstate
  have hs : ∀ i : StreamId, s.banks.touchedStreams[i] = false := fun i => hts i (by omega)
  have hg : ∀ g : GroupId, s.banks.touchedGroups[g] = false := fun g => htg g (by omega)
  have hp : s.banks.touchedPart = false := htp (by omega)
  exact ⟨bank_ext (fun i => hstreams i (hs i)) (fun g => hgroups g (hg g)) (hpart hp), hs, hg, hp⟩

/-! ### OPEN (R9, R17) -/

/-- Settles O32: the OPEN is due, since an IDLE accumulator is not SPENT. -/
theorem openStartsTheWindow : Obligations.OpenStartsTheWindow := by
  intro s g ⟨henabled, htick, hidle⟩
  have hdue : openDue s g = true := by
    simp only [openDue, scheduled, State.groupRec, Bool.and_eq_true, beq_iff_eq, bne_iff_ne, hidle]
    exact ⟨⟨henabled, nofun⟩, htick⟩
  have hexec : exec (.openWindow g) s = .next (s.modGroup g (fun a => { a with
      state := .opened, arrived := noArrivals, result := identityResult (s.groupRec g), filled := false, cut := false })) := by
    simp only [exec, execOpenWindow, if_pos hdue, openGroup, if_pos hidle]
  refine ⟨_, hexec, rfl, fun h hne => ?_, _, isIdentity_identityResult _, ?_⟩
  · rw [modGroup_get, if_neg hne.symm]
  · rw [modGroup_get, if_pos rfl]
    rfl

end Sys2Proof.Machine
end

section
/-!
ME stays sound (O12): queueing, ageing and sending keep the notices' bounds and distinctness, and every other operation
queues notices at most.
-/

namespace Sys2Proof.Machine

/-! ### The notice queue -/

theorem Management.sound.congr {m m' : Management} (h : m.sound) (hreq : m'.requests = m.requests)
    (hclaim : m'.claim = m.claim) (hcache : m'.cache = m.cache) (hnot : m'.notices = m.notices) : m'.sound := by
  unfold Management.sound at *
  rwa [hreq, hclaim, hcache, hnot]

theorem Management.sound.enqueueNotice {m : Management} (h : m.sound) (t : Topic) (pl : NoticePayload) :
    (enqueueNotice t pl m).sound := by
  obtain ⟨hreq, hcache, hlen, hnodup, hall⟩ := h
  obtain ⟨ereq, -, -, eclaim, ecache⟩ := enqueueNotice_frame t pl m
  suffices hs : (Machine.enqueueNotice t pl m).notices.length ≤ 16 ∧
      ((Machine.enqueueNotice t pl m).notices.map (·.topic)).Nodup ∧
      ∀ n ∈ (Machine.enqueueNotice t pl m).notices, 1 ≤ n.repeats ∧ n.repeats ≤ 255 ∧ ∀ a, n.age = some a → a ≤ 65535 by
    unfold Management.sound
    rw [ereq, eclaim, ecache]
    exact ⟨hreq, hcache, hs⟩
  rcases enqueueNotice_cases t pl m with ⟨old, hfound, e, -⟩ | ⟨-, -, e⟩ | ⟨habsent, hroom, e, -⟩
  · obtain ⟨before, after, hsplit, htopic, hfirst, herased⟩ := find?_topic_eq_some hfound
    rw [e, herased]
    rw [hsplit] at hlen hnodup hall
    refine ⟨by simp at hlen ⊢; omega, ?_, fun n hn => ?_⟩
    · simp only [List.map_append, List.map_cons, htopic, List.map_nil] at hnodup ⊢
      rw [List.append_assoc, List.nodup_append] at *
      obtain ⟨hb, ha, hdisj⟩ := hnodup
      obtain ⟨hnot, ha⟩ := List.nodup_cons.mp ha
      refine ⟨hb, ?_, fun a hax b hbx => hdisj a hax b ?_⟩
      · rw [List.nodup_append]
        exact ⟨ha, List.nodup_singleton _, fun a hax b hbx => by
          rintro rfl; exact hnot (List.mem_singleton.mp hbx ▸ hax)⟩
      · rcases List.mem_append.mp hbx with hx | hx
        · exact List.mem_cons_of_mem _ hx
        · exact List.mem_singleton.mp hx ▸ List.mem_cons_self ..
    · rcases List.mem_append.mp hn with hn | hn
      · refine hall n ?_
        rcases List.mem_append.mp hn with hn | hn
        · exact List.mem_append_left _ hn
        · exact List.mem_append_right _ (List.mem_cons_of_mem _ hn)
      · obtain rfl := List.mem_singleton.mp hn
        exact ⟨by show 1 ≤ min 255 _; omega, Nat.min_le_left _ _, nofun⟩
  · rw [e]
    exact ⟨hlen, hnodup, hall⟩
  · rw [e]
    refine ⟨by simp; omega, ?_, fun n hn => ?_⟩
    · rw [List.map_append, List.nodup_append]
      refine ⟨hnodup, List.nodup_singleton _, fun a hax b hbx => ?_⟩
      obtain ⟨n, hn, rfl⟩ := List.mem_map.mp hax
      rw [List.mem_singleton.mp hbx]
      exact find?_topic_eq_none.mp habsent n hn
    · rcases List.mem_append.mp hn with hn | hn
      · exact hall n hn
      · obtain rfl := List.mem_singleton.mp hn
        exact ⟨Nat.le_refl 1, Nat.succ_le_of_lt (by decide : 0 < 255), nofun⟩

theorem Management.sound.queueNotice {s : State} (h : s.me.sound) (t : Topic) (pl : NoticePayload) :
    (queueNotice t pl s).me.sound := h.enqueueNotice t pl

/-- A change of the ages within their bound keeps ME sound. -/
theorem Management.sound.reage {m : Management} (h : m.sound) {l : List Notice} {o : Bool}
    (htopics : l.map (·.topic) = m.notices.map (·.topic))
    (hall : ∀ n ∈ l, ∃ n' ∈ m.notices, n.repeats = n'.repeats ∧ ∀ a, n.age = some a → a ≤ 65535) :
    Management.sound { m with notices := l, overflow := o } := by
  obtain ⟨hreq, hcache, hlen, hnodup, hold⟩ := h
  refine ⟨hreq, hcache, ?_, htopics ▸ hnodup, fun n hn => ?_⟩
  · have : l.length = m.notices.length := by simpa using congrArg List.length htopics
    exact this ▸ hlen
  · obtain ⟨n', hn', hrep, hage⟩ := hall n hn
    exact ⟨hrep ▸ (hold n' hn').1, hrep ▸ (hold n' hn').2.1, hage⟩

theorem ageNotices_sound {s : State} (h : s.me.sound) : (ageNotices s).me.sound := by
  refine h.reage (by simp [List.map_map, Function.comp_def]) (fun n hn => ?_)
  obtain ⟨n', hn', rfl⟩ := List.mem_map.mp hn
  refine ⟨n', hn', rfl, fun a ha => ?_⟩
  obtain ⟨b, -, rfl⟩ := Option.map_eq_some_iff.mp ha
  exact Nat.min_le_left _ _

theorem markSent_topics (resend : Nat) (l : List Notice) : (markSent resend l).map (·.topic) = l.map (·.topic) := by
  induction l with
  | nil => rfl
  | cons n l ih =>
    unfold markSent
    split
    · rfl
    · simp [ih]

/-- A notice after the sending is one of before it, or the one sent, at age 0. -/
theorem mem_markSent {resend : Nat} {l : List Notice} {n : Notice} (h : n ∈ markSent resend l) :
    n ∈ l ∨ ∃ n' ∈ l, n = { n' with age := some 0 } := by
  induction l with
  | nil => exact absurd h List.not_mem_nil
  | cons x l ih =>
    unfold markSent at h
    split at h
    · rcases List.mem_cons.mp h with rfl | h
      · exact .inr ⟨x, List.mem_cons_self .., rfl⟩
      · exact .inl (List.mem_cons_of_mem _ h)
    · rcases List.mem_cons.mp h with rfl | h
      · exact .inl (List.mem_cons_self ..)
      · rcases ih h with hn | ⟨n', hn', e⟩
        · exact .inl (List.mem_cons_of_mem _ hn)
        · exact .inr ⟨n', List.mem_cons_of_mem _ hn', e⟩

theorem sendNotice_sound {s : State} (h : s.me.sound) : (sendNotice s).me.sound := by
  unfold sendNotice
  split
  · split
    · simp only [appendControl_frame, State.modMe_me]
      refine h.reage (markSent_topics _ _) (fun n hn => ?_)
      obtain ⟨-, -, -, -, hall⟩ := h
      rcases mem_markSent hn with hn | ⟨n', hn', rfl⟩
      · exact ⟨n, hn, rfl, (hall n hn).2.2⟩
      · exact ⟨n', hn', rfl, fun a ha => by cases ha; omega⟩
    · exact h
  · exact h

/-! ### The operations that queue notices at most -/

theorem emit_sound {g : GroupId} {v : Samples} {short : Bool} {s : State} (h : s.me.sound) :
    (emit g v short s).me.sound := by
  unfold emit
  split
  · exact h.queueNotice _ _
  · dsimp only
    split
    · simpa [State.countGroup] using h
    · simpa using h

theorem noteShort_sound {g : GroupId} {s : State} (h : s.me.sound) : (noteShort g s).me.sound := by
  unfold noteShort
  dsimp only
  split
  · exact Management.sound.queueNotice (s := s.countGroup g _) h _ _
  · exact h

theorem closeGroup_sound {forced : Bool} {g : GroupId} {s : State} (h : s.me.sound) :
    (closeGroup forced g s).me.sound := by
  by_cases ho : s.groups[g].state = .opened
  · rw [closeGroup_open ho, State.modGroup_me]
    have hm : (if forced then markCut g s else s).me.sound := by cases forced <;> exact h
    split
    · generalize (if forced then markCut g s else s) = u at hm
      unfold formedClose
      dsimp only
      split <;> exact emit_sound (by exact hm)
    · unfold shortClose
      split
      · exact noteShort_sound hm
      · exact emit_sound (noteShort_sound hm)
  · rwa [closeGroup_shut ho]

theorem timingPortLost_sound {s : State} (h : s.me.sound) : (timingPortLost s).me.sound := by
  unfold timingPortLost
  split
  · exact Management.sound.queueNotice (s := s.modTf _) h _ _
  · exact h

theorem dropLink_sound {p : Port} {target : Link} {s : State} (h : s.me.sound) : (dropLink p target s).me.sound :=
  h.congr (by simp) (by simp) (by simp) (by simp)

theorem leaveUp_sound {p : Port} {target : Link} {o : LossOrder} {s : State} (h : s.me.sound) :
    (leaveUp p target o s).me.sound := by
  have tell : ∀ {t : State}, t.me.sound → (tellFollower p t).me.sound := by
    intro t ht
    unfold tellFollower
    split
    · exact timingPortLost_sound ht
    · exact ht
  cases o
  · exact tell ((dropLink_sound h).queueNotice _ _)
  · exact (tell (dropLink_sound h)).queueNotice _ _

theorem forwardCell_sound {i : StreamId} {d : Dest} {r : StreamRec} {p : Port} {c : Cell} {s : State} (h : s.me.sound) :
    (forwardCell i d r p c s).me.sound := by
  unfold forwardCell
  dsimp only
  split
  · simpa [State.countStream] using h
  · split
    · exact Management.sound.queueNotice (by simpa [State.countStream] using h) _ _
    · simpa using h

theorem lookUp_sound {i : StreamId} {p : Port} {c : Cell} {s : State} (h : s.me.sound) : (lookUp i p c s).me.sound := by
  have accept : ∀ {t : State}, t.me.sound → ∀ r, (acceptCell i r p c t).me.sound := by
    intro t ht r
    unfold acceptCell handOn
    split
    · exact ht
    · exact forwardCell_sound (by exact ht)
    · simpa [State.countStream] using ht
    · simpa using forwardCell_sound (by exact ht)
  unfold lookUp
  dsimp only
  split
  · exact h
  · split
    · exact h
    · unfold sequenceStage
      dsimp only
      split <;> first | exact h | exact accept (by exact h) _

theorem classify_sound {p : Port} {c : Cell} {s : State} (h : s.me.sound) : (classify p c s).me.sound := by
  unfold classify
  split
  · exact h
  · split
    · exact h
    · split
      · unfold takeInRequest
        split
        · split
          next hroom =>
            obtain ⟨-, hrest⟩ := h
            refine ⟨?_, hrest⟩
            have : s.me.requests.length < 4 := hroom
            simp only [State.modMe_me, List.length_append, List.length_cons, List.length_nil]
            omega
          · exact h
        · exact h
      · exact lookUp_sound h

theorem boundaryAct_sound (w : Swap) (s : State) (a : BoundaryAct) (h : s.me.sound) : (boundaryAct w s a).me.sound := by
  cases a <;> simp only [boundaryAct]
  case commitApplied => split <;> first | exact h | exact h.queueNotice _ _
  case reevaluate =>
    split
    · unfold reevaluate
      dsimp only
      split
      · exact h
      · exact Management.sound.queueNotice (s := s.modTf _) h _ _
    · exact h
  case timingLoss => split <;> first | exact h | exact timingPortLost_sound h
  case port p =>
    split
    · unfold followPortEnable
      split
      · split
        · exact (dropLink_sound h).queueNotice _ _
        · exact h
        · exact h
      · split <;> exact h
    · exact h
  case lease =>
    unfold countLease
    split
    · exact h
    next tag hholder =>
      have hsome : ∀ c : Claim, c.holder = some tag → Management.sound { s.me with claim := c } := by
        obtain ⟨hreq, -, hrest⟩ := h
        exact fun c hc => ⟨hreq, fun hn => absurd (hc.symm.trans hn) nofun, hrest⟩
      dsimp only
      split
      · obtain ⟨hreq, -, hrest⟩ := h
        exact Management.sound.enqueueNotice (m := { s.me with claim := _, cache := none }) ⟨hreq, fun _ => rfl, hrest⟩ _ _
      · exact hsome _ hholder
  case silent =>
    split
    · exact h
    · unfold silentCheck
      split
      · exact h
      · dsimp only
        have lose : ∀ {t : State}, t.me.sound → (if syncMissingDue t then loseLockBySilence t else t).me.sound := by
          intro t ht
          split
          · exact Management.sound.queueNotice (s := t.modTf _) ht _ _
          · exact ht
        refine lose ?_
        split <;> exact h
  case syncOut =>
    exact foldl_keeps (fun t : State => t.me.sound) _ (fun t p ht => by simpa using ht) _ _ h
  case send => exact sendNotice_sound (ageNotices_sound h)

theorem takeBoundary_sound {k : BoundaryKind} {sch : List BoundaryAct} {s : State} (h : s.me.sound) :
    (takeBoundary k sch s).me.sound :=
  takeBoundary_keeps (fun t => t.me.sound) k sch s (fun t a ht => boundaryAct_sound _ t a ht) (by simpa using h)

theorem takeSync_sound {s : State} (h : s.me.sound) : (takeSync s).me.sound := by
  rcases takeSync_cases s with ⟨-, e⟩ | ⟨n, rest, -, e⟩ <;> rw [e]
  · exact h
  · generalize hu : s.modTf _ = u
    have hu : u.me.sound := by rw [← hu]; exact h
    rcases actOnSync_cases n (syncOffset s.pt.tick s.pt.len) u with
      ⟨-, e⟩ | ⟨-, e⟩ | ⟨-, -, e⟩ | ⟨-, -, e⟩ | ⟨-, -, e⟩ <;> rw [e]
    · exact hu
    · exact hu.enqueueNotice _ _
    · unfold followSync
      dsimp only
      split
      · exact Management.sound.enqueueNotice hu _ _
      · exact hu
    · unfold missSync
      dsimp only
      split
      · exact Management.sound.enqueueNotice hu _ _
      · exact hu
    · exact hu.enqueueNotice _ _

theorem execSyncTaken_sound {closes : ForcedCloses} {sch : List BoundaryAct} {s : State} (h : s.me.sound) :
    (carryStep closes sch (takeSyncFirst closes s)).me.sound := by
  have hfirst : (takeSyncFirst closes s).me.sound := by
    rcases takeSyncFirst_cases closes s with ⟨-, e⟩ | ⟨-, -, e⟩ <;> rw [e]
    exacts [takeSync_sound h, h]
  have force : ∀ l, (forceCloses l (takeSyncFirst closes s)).me.sound := fun l =>
    foldl_keeps (fun t : State => t.me.sound) _ (fun t g ht => closeGroup_sound ht) l _ hfirst
  rcases carryStep_cases closes sch (takeSyncFirst closes s) with ⟨-, e⟩ | ⟨l, -, e, -⟩ | ⟨n, l, -, -, -, e⟩ <;> rw [e]
  exacts [hfirst, force l, takeBoundary_sound (force _)]

theorem takeRequest_sound {body : Request → State → Answer} (hb : BodyFrame body) (name : Option RequestName)
    (s : State) (h : s.me.sound) : (takeRequest name body s).me.sound := by
  refine takeRequest_frame_keeps hb (fun t => t.me.sound) name s h ?_ ?_ ?_ ?_ hb.sound
  · intro q rest hq
    obtain ⟨hreq, hrest⟩ := h
    rw [hq] at hreq
    exact ⟨Nat.le_of_succ_le hreq, hrest⟩
  · intro q t ⟨hreq, hcache, hrest⟩
    unfold renewClaim
    split
    · exact ⟨hreq, hcache, hrest⟩
    · exact ⟨hreq, hcache, hrest⟩
  · intro r q code st data t _ ht
    exact ht.congr (by simp) (by simp) (by simp) (by simp)
  · intro q code st data t ⟨hreq, hcache, hrest⟩
    unfold updateCache
    split
    next hf =>
      refine ⟨hreq, fun hn => ?_, hrest⟩
      rw [fromHolder_iff] at hf
      exact absurd (hf.symm.trans hn) nofun
    · exact ⟨hreq, hcache, hrest⟩

theorem afterReset_sound (cause : Topic) : (Management.afterReset cause).sound := by
  refine ⟨Nat.zero_le _, fun _ => rfl, by simp [Management.afterReset], by simp [Management.afterReset], ?_⟩
  intro n hn
  obtain rfl := List.mem_singleton.mp hn
  exact ⟨Nat.le_refl 1, Nat.succ_le_of_lt (by decide : 0 < 255), nofun⟩

theorem exec_keeps_sound (c : Instr) (s t : State) (h : s.me.sound) (he : exec c s = .next t) : t.me.sound := by
  by_cases hc : Instr.isEvent c = false
  · obtain ⟨name, body, hb, he'⟩ := exec_request hc
    obtain rfl := next_inj ((he' s).symm.trans he)
    exact takeRequest_sound hb name s h
  cases c <;> first | exact absurd rfl hc | simp only [exec] at he
  case powerOnReset => exact next_inj he ▸ afterReset_sound _
  case softReset => unfold execSoftReset at he; split at he <;> cases he <;> first | exact h | exact afterReset_sound _
  case tickEnd => unfold execTickEnd at he; split at he <;> cases he <;> simpa using h
  case boundary =>
    unfold execBoundary at he; split at he <;> cases he <;> first | exact h | exact takeBoundary_sound (by simpa using h)
  case claimExpired =>
    unfold execClaimExpired at he
    split at he
    · split at he <;> cases he
      · obtain ⟨hreq, -, hrest⟩ := h
        exact Management.sound.enqueueNotice (m := { s.me with claim := _, cache := none }) ⟨hreq, fun _ => rfl, hrest⟩ _ _
      · exact h
    · cases he; exact h
  case syncMissing =>
    unfold execSyncMissing at he; split at he <;> cases he <;> first | exact h | exact h.enqueueNotice _ _
  case refreshCopy => unfold execRefreshCopy at he; split at he <;> cases he <;> exact h
  case refreshComplete => unfold execRefreshComplete at he; split at he <;> cases he <;> exact h
  case openWindow => unfold execOpenWindow at he; cases he; split <;> simpa using h
  case closeWindow => unfold execCloseWindow at he; cases he; split <;> first | exact h | exact closeGroup_sound h
  case syncTaken => obtain rfl := next_inj he; exact execSyncTaken_sound h
  case signalDetected => cases he; exact h
  case signalLost =>
    unfold execSignalLost at he; dsimp only at he; split at he <;> cases he <;> first | exact h | exact leaveUp_sound h
  case aligned => unfold execAligned at he; split at he <;> cases he <;> first | exact h | exact h.enqueueNotice _ _
  case unaligned => unfold execUnaligned at he; split at he <;> cases he <;> first | exact h | exact leaveUp_sound h
  case cellReceived =>
    unfold execCellReceived at he
    split at he
    · split at he <;> cases he
      · exact classify_sound h
      · unfold failCheck; dsimp only; split <;> first | exact h | exact leaveUp_sound h
    · cases he; exact h
  case txComplete =>
    unfold execTxComplete at he
    split at he <;> cases he
    · exact h
    · exact h.congr (by simp) (by simp) (by simp) (by simp)
    · simpa using h

/-- Settles O12. -/
theorem stepsKeepManagement : Obligations.StepsKeepManagement :=
  step_keeps ManagementInv (fun _ _ h => h) exec_keeps_sound

end Sys2Proof.Machine
end

section
/-!
The banks under every command (R111, R116, R117, R119, R127): the invariants `BanksInv` and the legality of both banks, as
properties of TBC that each of its changes keeps.
-/

namespace Sys2Proof.Machine

/-! ### Unmarked positions hold equal records (R127) -/

/-- `BanksInv` as a property of TBC. -/
def Banks.matched (b : Banks) : Prop :=
  (∀ i : StreamId, b.touchedStreams[i] = false → b.shadow.streams[i] = b.active.streams[i]) ∧
  (∀ g : GroupId, b.touchedGroups[g] = false → b.shadow.groups[g] = b.active.groups[g]) ∧
  (b.touchedPart = false → b.shadow.part = b.active.part) ∧
  (b.state = .refresh →
    (∀ i : StreamId, i.val < b.copyPos → b.touchedStreams[i] = false) ∧
    (∀ g : GroupId, 1024 + g.val < b.copyPos → b.touchedGroups[g] = false) ∧
    (1088 < b.copyPos → b.touchedPart = false))

theorem banksInv_iff (s : State) : BanksInv s ↔ s.banks.matched := Iff.rfl

/-- A change of the bank state or of the copy's age, without a copied position, keeps the match. -/
theorem Banks.matched.restate {b : Banks} (h : b.matched) {st : BankState} {pos age : Nat}
    (hst : st = .refresh → b.state = .refresh ∧ pos ≤ b.copyPos ∨ pos = 0) :
    Banks.matched { b with state := st, copyPos := pos, copyAge := age } := by
  obtain ⟨hs, hg, hp, hcopied⟩ := h
  refine ⟨hs, hg, hp, fun hr => ?_⟩
  rcases hst hr with ⟨hold, hle⟩ | rfl
  · obtain ⟨cs, cg, cp⟩ := hcopied hold
    exact ⟨fun i hi => cs i (hi.trans_le hle), fun g hg => cg g (hg.trans_le hle), fun hq => cp (hq.trans_le hle)⟩
  · exact ⟨fun i hi => absurd hi (Nat.not_lt_zero _), fun g hg => absurd hg (Nat.not_lt_zero _),
      fun hq => absurd hq (Nat.not_lt_zero _)⟩

theorem Banks.matched.copyPosition {b : Banks} (h : b.matched) (hr : b.state = .refresh) : (copyPosition b).matched := by
  obtain ⟨hs, hg, hp, hcopied⟩ := h
  obtain ⟨cs, cg, cp⟩ := hcopied hr
  rcases copyPosition_cases b with ⟨i, hi, e⟩ | ⟨g, hgp, e⟩ | ⟨hpos, e⟩ <;> rw [e]
  · refine ⟨fun j hj => ?_, hg, hp, fun _ => ⟨fun j hj => ?_, fun g hlt => cg g ?_, fun hlt => cp ?_⟩⟩
    · simp only [set_get] at hj ⊢
      split
      next hij => rw [hij]
      next hij => rw [if_neg hij] at hj; exact hs j hj
    · simp only [set_get]
      split
      · rfl
      next hij =>
        refine cs j ?_
        have : i.val ≠ j.val := Fin.val_ne_of_ne hij
        simp only at hj
        omega
    all_goals
      simp only at hlt
      omega
  · refine ⟨hs, fun j hj => ?_, hp, fun _ => ⟨fun j hlt => cs j ?_, fun j hj => ?_, fun hlt => cp ?_⟩⟩
    · simp only [set_get] at hj ⊢
      split
      next hij => rw [hij]
      next hij => rw [if_neg hij] at hj; exact hg j hj
    · omega
    · simp only [set_get]
      split
      · rfl
      next hij =>
        refine cg j ?_
        have : g.val ≠ j.val := Fin.val_ne_of_ne hij
        simp only at hj
        omega
    · simp only at hlt
      omega
  · refine ⟨hs, hg, fun _ => rfl, fun _ => ⟨fun j hlt => cs j ?_, fun j hlt => cg j ?_, fun _ => rfl⟩⟩ <;> omega

theorem banksKept_matched : BanksKept Banks.matched where
  powerOn := ⟨fun i _ => rfl, fun g _ => rfl, fun _ => rfl, nofun⟩
  softReset b h := by
    unfold softResetBanks
    split
    · exact h
    · exact h.restate (st := .idle) (pos := b.copyPos) (age := b.copyAge) nofun
    · exact h.restate (fun _ => .inr rfl)
  age b h := h.restate (st := b.state) (pos := b.copyPos) (fun hr => .inl ⟨hr, Nat.le_refl _⟩)
  swap b h _ := by
    obtain ⟨hs, hg, hp, -⟩ := h
    exact ⟨fun i hi => (hs i hi).symm, fun g hi => (hg g hi).symm, fun hi => (hp hi).symm, fun _ =>
      ⟨fun i hi => absurd hi (Nat.not_lt_zero _), fun g hi => absurd hi (Nat.not_lt_zero _),
        fun hi => absurd hi (Nat.not_lt_zero _)⟩⟩
  copy b h hr _ := h.copyPosition hr
  complete b h _ _ := h.restate (st := .idle) (pos := b.copyPos) (age := b.copyAge) nofun
  putStream b i r h hidle := by
    obtain ⟨hs, hg, hp, -⟩ := h
    refine ⟨fun j hj => ?_, hg, hp, fun hr => absurd (hidle.symm.trans hr) nofun⟩
    simp only [putStream, set_get] at hj ⊢
    split
    next hij => rw [if_pos hij] at hj; exact absurd hj nofun
    next hij => rw [if_neg hij] at hj; exact hs j hj
  putGroup b i c k r h hidle _ := by
    obtain ⟨hs, hg, hp, -⟩ := h
    refine ⟨hs, fun j hj => ?_, hp, fun hr => absurd (hidle.symm.trans hr) nofun⟩
    simp only [putGroup, set_get] at hj ⊢
    split
    next hij => rw [if_pos hij] at hj; exact absurd hj nofun
    next hij => rw [if_neg hij] at hj; exact hg j hj
  putPart b c k r h hidle _ := by
    obtain ⟨hs, hg, hp, -⟩ := h
    exact ⟨hs, hg, nofun, fun hr => absurd (hidle.symm.trans hr) nofun⟩
  arm b h _ _ := h.restate (st := .armed) (pos := b.copyPos) (age := b.copyAge) nofun
  cancel b h _ := h.restate (st := .idle) (pos := b.copyPos) (age := b.copyAge) nofun

theorem exec_keeps_banksInv (c : Instr) (s t : State) (h : BanksInv s) (he : exec c s = .next t) : BanksInv t :=
  exec_keeps_banks banksKept_matched c s t h he

/-! ### Both banks are legal, and a bank that is or becomes active has windows that fit (R116, R117, R119) -/

/-- The banks' part of `ScheduleInv`. -/
def Banks.scheduled (b : Banks) : Prop :=
  b.active.legal ∧ b.shadow.legal ∧ b.active.windowsFit ∧ (b.state = .armed → b.shadow.windowsFit)

/-- A set that a write decodes without a common bit is legal (R79). -/
theorem dest_legal_of_not_common {b w : BitVec 3} (h : ¬ (b &&& w != 0) = true) :
    Dest.legal { base := b, wild := w } := by
  simpa [Dest.legal] using h

theorem decodeGroupRec_legal {c : Cell} {k : Nat} {r : GroupRec} (h : decodeGroupRec c k = .ok r) : r.legal := by
  unfold decodeGroupRec at h
  dsimp only at h
  split at h
  · exact absurd h nofun
  next hrange =>
    split at h
    · exact absurd h nofun
    next hset =>
      split at h
      · exact absurd h nofun
      next hcross =>
        simp only [Except.ok.injEq] at h
        subst h
        simp only [Bool.not_eq_true, Bool.not_eq_false', Bool.and_eq_true, decide_eq_true_eq] at hrange hcross
        obtain ⟨⟨⟨⟨⟨⟨⟨⟨⟨⟨⟨⟨-, hopen⟩, hclose1⟩, hclose⟩, hcon1⟩, hcon⟩, hq1⟩, hq⟩, hn1⟩, hn⟩, -⟩, -⟩, -⟩ := hrange
        exact ⟨hopen, hcross.1, hclose, hcon1, hcon, hq1, hcross.2, hn1, hn, dest_legal_of_not_common hset⟩

theorem half_lt (hi lo : Byte) : half hi lo < 65536 := (hi ++ lo : BitVec 16).isLt

theorem decodePartRec_legal {c : Cell} {k : Nat} {r : PartRec} (h : decodePartRec c k = .ok r) : r.legal := by
  unfold decodePartRec at h
  dsimp only at h
  split at h
  · exact absurd h nofun
  next hrange =>
    simp only [Except.ok.injEq] at h
    subst h
    simp only [Bool.not_eq_true, Bool.not_eq_false', Bool.and_eq_true, decide_eq_true_eq] at hrange
    obtain ⟨⟨⟨⟨⟨⟨⟨⟨-, hbase1⟩, hbase⟩, hfrac⟩, -⟩, htol⟩, -⟩, hlease⟩, hresend⟩ := hrange
    exact ⟨hbase1, hbase, hfrac, htol, hlease, Nat.le_of_lt_succ (half_lt _ _), hresend, Nat.le_of_lt_succ (half_lt _ _)⟩

theorem windowLimit_eq (r : PartRec) : windowLimit r = (r.baseLen : Int) - (r.margin : Int) := by
  unfold windowLimit PartRec.margin
  cases r.source <;> rfl

theorem windowFits_iff (r : PartRec) (g : GroupRec) :
    windowFits r g = true ↔ (g.enabled = true → g.closeTick + r.margin + 1 ≤ r.baseLen) := by
  unfold windowFits
  rw [windowLimit_eq]
  cases g.enabled <;> simp
  omega

theorem failsWindow_none {b : Bank} (h : failsWindow b = none) : b.windowsFit := by
  intro g hen
  have hall := List.findIdx?_eq_none_iff.mp h b.groups[g] (by simp)
  exact (windowFits_iff _ _).mp (by simpa using hall) hen

theorem commitChecks_none_windowsFit {b : Bank} (h : commitChecks b = none) : b.windowsFit := by
  unfold commitChecks at h
  split at h
  · exact absurd h nofun
  next hw => exact failsWindow_none hw

theorem bank_default_legal : Bank.default.legal := by
  refine ⟨?_, fun g => ?_⟩
  · simp [Bank.default, PartRec.default, PartRec.legal]
  · simp [Bank.default, GroupRec.default, GroupRec.legal, Dest.legal]

theorem bank_default_windowsFit : Bank.default.windowsFit := by
  intro g hen
  simp [Bank.default, GroupRec.default] at hen

theorem Bank.legal.setGroup {b : Bank} (h : b.legal) {r : GroupRec} (hr : r.legal) (g : GroupId) :
    Bank.legal { b with groups := b.groups.set g.val r g.isLt } := by
  obtain ⟨hp, hg⟩ := h
  refine ⟨hp, fun j => ?_⟩
  simp only [set_get]
  split
  · exact hr
  · exact hg j

theorem banksKept_scheduled : BanksKept Banks.scheduled where
  powerOn := ⟨bank_default_legal, bank_default_legal, bank_default_windowsFit, nofun⟩
  softReset b h := by
    unfold softResetBanks
    obtain ⟨ha, hs, hw, harm⟩ := h
    split
    · exact ⟨ha, hs, hw, harm⟩
    · exact ⟨ha, hs, hw, nofun⟩
    · exact ⟨ha, hs, hw, harm⟩
  age b h := h
  swap b h harmed := by
    obtain ⟨ha, hs, -, harm⟩ := h
    exact ⟨hs, ha, harm harmed, nofun⟩
  copy b h hr _ := by
    obtain ⟨ha, hs, hw, -⟩ := h
    rcases copyPosition_cases b with ⟨i, -, e⟩ | ⟨g, -, e⟩ | ⟨-, e⟩ <;> rw [e] <;>
      refine ⟨ha, ?_, hw, fun hx => absurd (hr.symm.trans hx) nofun⟩
    · exact hs
    · exact hs.setGroup (ha.2 g) g
    · exact ⟨ha.1, hs.2⟩
  complete b h _ _ := ⟨h.1, h.2.1, h.2.2.1, nofun⟩
  putStream b i r h hidle := ⟨h.1, h.2.1, h.2.2.1, fun hx => absurd (hidle.symm.trans hx) nofun⟩
  putGroup b g c k r h hidle hd := ⟨h.1, h.2.1.setGroup (decodeGroupRec_legal hd) g, h.2.2.1,
    fun hx => absurd (hidle.symm.trans hx) nofun⟩
  putPart b c k r h hidle hd := ⟨h.1, ⟨decodePartRec_legal hd, h.2.1.2⟩, h.2.2.1,
    fun hx => absurd (hidle.symm.trans hx) nofun⟩
  arm b h _ hc := ⟨h.1, h.2.1, h.2.2.1, fun _ => commitChecks_none_windowsFit hc⟩
  cancel b h _ := ⟨h.1, h.2.1, h.2.2.1, nofun⟩

end Sys2Proof.Machine
end

section
/-!
The schedule, the timing state and the accumulators under every command (O7 to O9, O25): what the commands leave alone that
begin no period, then the tick's end, the boundary, the step and the resets.
-/

namespace Sys2Proof.Machine

/-! ### The commands that neither reset nor move the time -/

/-- A command that neither resets, ends a tick, begins a period nor takes a SYNC. -/
def Instr.isQuiet (c : Instr) : Bool :=
  match c with
  | .powerOnReset | .softReset | .tickEnd | .boundary _ | .syncTaken _ _ => false
  | _ => true

/-- What a quiet command does to PT, the active bank, TF's state and the accumulators' states. -/
structure Quiet (s t : State) : Prop where
  pt : t.pt = s.pt
  active : t.banks.active = s.banks.active
  tfState : t.tf.state = s.tf.state ∨ (s.tf.state = .locked ∧ t.tf.state = .holdover)
  handed : t.tf.handed = s.tf.handed ∨ s.part.source = .follow
  groups : ∀ g : GroupId, t.groups[g].state = s.groups[g].state ∨
    (openDue s g = true ∧ s.groups[g].state = .idle ∧ t.groups[g].state = .opened) ∨
    (s.groups[g].state = .opened ∧ (t.groups[g].state = .done ∨ t.groups[g].state = .spent))

theorem Quiet.of_same {s t : State} (hpt : t.pt = s.pt) (hactive : t.banks.active = s.banks.active) (htf : t.tf = s.tf)
    (hgroups : ∀ g : GroupId, t.groups[g].state = s.groups[g].state) : Quiet s t :=
  ⟨hpt, hactive, .inl (by rw [htf]), .inl (by rw [htf]), fun g => .inl (hgroups g)⟩

theorem Quiet.refl (s : State) : Quiet s s := .of_same rfl rfl rfl (fun _ => rfl)

theorem takeRequest_quiet {body : Request → State → Answer} (hb : BodyFrame body) (name : Option RequestName)
    (s : State) : Quiet s (takeRequest name body s) := by
  have h := takeRequest_frame_keeps hb (fun t => t.pt = s.pt ∧ t.banks.active = s.banks.active ∧
    t.tf.state = s.tf.state ∧ t.tf.handed = s.tf.handed ∧ ∀ g : GroupId, t.groups[g].state = s.groups[g].state) name s
    ⟨rfl, rfl, rfl, rfl, fun _ => rfl⟩ (fun _ _ _ => ⟨rfl, rfl, rfl, rfl, fun _ => rfl⟩)
    (fun q t ht => by simpa using ht) (fun r q code st data t _ ht => by simpa using ht)
    (fun q code st data t ht => by simpa using ht)
    (fun q t ⟨hpt, hactive, htf, hhanded, hgroups⟩ => ⟨(hb.pt q t).trans hpt, (hb.active q t).trans hactive,
      (hb.tfState q t).trans htf, (hb.handed q t).trans hhanded, fun g => (hb.groupState q t g).trans (hgroups g)⟩)
  obtain ⟨hpt, hactive, htf, hhanded, hgroups⟩ := h
  exact ⟨hpt, hactive, .inl htf, .inl hhanded, fun g => .inl (hgroups g)⟩

theorem timingPortLost_tf (s : State) : (timingPortLost s).tf = if s.tf.state = .locked then
    { s.tf with state := .holdover } else s.tf := by
  unfold timingPortLost
  split <;> rfl

theorem leaveUp_tf (p : Port) (target : Link) (o : LossOrder) (s : State) : (leaveUp p target o s).tf =
    if s.part.timingPort = p ∧ s.tf.state = .locked then { s.tf with state := .holdover } else s.tf := by
  have tell : ∀ t : State, t.banks = s.banks → t.tf = s.tf → (tellFollower p t).tf =
      if s.part.timingPort = p ∧ s.tf.state = .locked then { s.tf with state := .holdover } else s.tf := by
    intro t hbanks htf
    unfold tellFollower
    rw [show t.part = s.part from congrArg (·.active.part) hbanks]
    split
    next hp => rw [timingPortLost_tf, htf]; simp [hp]
    next hp => rw [htf]; simp [hp]
  cases o
  · exact tell _ (by simp [queueLink]) (by simp [queueLink])
  · exact tell _ (by simp) (by simp)

theorem leaveUp_quiet {p : Port} {target : Link} {o : LossOrder} {s t : State} (hpt : t.pt = s.pt)
    (hbanks : t.banks = s.banks) (htf : t.tf = s.tf) (hgroups : t.groups = s.groups) :
    Quiet s (leaveUp p target o t) := by
  have htf' := leaveUp_tf p target o t
  rw [htf] at htf'
  refine ⟨by simp [hpt], by simp [hbanks], ?_, .inl ?_, fun g => .inl ?_⟩
  · rw [htf']
    split
    next h => exact .inr ⟨h.2, rfl⟩
    · exact .inl rfl
  · rw [htf']
    split <;> rfl
  · simp [hgroups]

theorem classify_quiet (p : Port) (c : Cell) (s : State) : Quiet s (classify p c s) := by
  refine ⟨by simp, by simp, .inl (by simp), ?_, fun g => .inl (classify_state p c s g)⟩
  unfold classify
  split
  · exact .inl rfl
  · split
    next hd =>
      simp only [divertsSync, Bool.and_eq_true, beq_iff_eq] at hd
      exact .inr hd.1.2
    · split
      · unfold takeInRequest
        split
        · split <;> exact .inl rfl
        · exact .inl rfl
      · exact .inl (by simp)

theorem exec_quiet {c : Instr} {s t : State} (hc : Instr.isQuiet c = true) (he : exec c s = .next t) : Quiet s t := by
  by_cases hev : Instr.isEvent c = false
  · obtain ⟨name, body, hb, he'⟩ := exec_request hev
    obtain rfl := next_inj ((he' s).symm.trans he)
    exact takeRequest_quiet hb name s
  cases c <;> simp only [Instr.isEvent, Instr.isQuiet, reduceCtorEq, not_true_eq_false, not_false_eq_true] at hc hev <;>
    simp only [exec] at he
  case claimExpired =>
    unfold execClaimExpired at he
    split at he
    · split at he <;> cases he
      · exact .of_same rfl rfl rfl (fun _ => rfl)
      · exact .refl s
    · cases he; exact .refl s
  case syncMissing =>
    unfold execSyncMissing at he
    split at he <;> cases he
    next hdue =>
      simp only [syncMissingDue, Bool.and_eq_true, beq_iff_eq] at hdue
      exact ⟨rfl, rfl, .inr ⟨hdue.1, rfl⟩, .inl rfl, fun _ => .inl rfl⟩
    · exact .refl s
  case refreshCopy =>
    unfold execRefreshCopy at he
    split at he <;> cases he
    · refine .of_same rfl ?_ rfl (fun _ => rfl)
      rcases copyPosition_cases s.banks with ⟨i, -, e⟩ | ⟨g, -, e⟩ | ⟨-, e⟩ <;> rw [State.modBanks_banks, e]
    · exact .refl s
  case refreshComplete =>
    unfold execRefreshComplete at he
    split at he <;> cases he
    · exact .of_same rfl rfl rfl (fun _ => rfl)
    · exact .refl s
  case openWindow g =>
    unfold execOpenWindow at he
    cases he
    split
    next hdue =>
      refine ⟨by simp, by simp, .inl (by simp), .inl (by simp), fun h => ?_⟩
      unfold openGroup
      split
      next hidle =>
        rw [modGroup_get]
        split
        next hgh => subst hgh; exact .inr (.inl ⟨hdue, hidle, rfl⟩)
        · exact .inl rfl
      · exact .inl rfl
    · exact .refl s
  case closeWindow g =>
    unfold execCloseWindow at he
    cases he
    split
    · refine ⟨by simp, by simp, .inl (by simp), .inl (by simp), fun h => ?_⟩
      by_cases hgh : g = h
      · subst hgh
        by_cases ho : s.groups[g].state = .opened
        · rw [closeGroup_state_own false ho]
          exact .inr (.inr ⟨ho, by cases (s.groupRec g).mode <;> simp [afterClose]⟩)
        · exact .inl (by rw [closeGroup_shut ho])
      · exact .inl (closeGroup_state_other _ _ hgh)
    · exact .refl s
  case signalDetected => cases he; exact .of_same rfl rfl rfl (fun _ => rfl)
  case signalLost =>
    unfold execSignalLost at he
    dsimp only at he
    split at he <;> cases he
    · exact leaveUp_quiet rfl rfl rfl rfl
    · exact .of_same rfl rfl rfl (fun _ => rfl)
    · exact .of_same rfl rfl rfl (fun _ => rfl)
  case aligned =>
    unfold execAligned at he
    split at he <;> cases he
    · exact .of_same rfl rfl rfl (fun _ => rfl)
    · exact .refl s
  case unaligned =>
    unfold execUnaligned at he
    split at he <;> cases he
    · exact leaveUp_quiet rfl rfl rfl rfl
    · exact .refl s
  case cellReceived p c o =>
    unfold execCellReceived at he
    split at he
    · split at he <;> cases he
      · obtain ⟨hpt, hactive, htf, hhanded, hgroups⟩ := classify_quiet p c (passCheck p s)
        exact ⟨hpt, hactive, htf, hhanded, fun g => .inl ((classify_state p c (passCheck p s) g).trans rfl)⟩
      · unfold failCheck
        dsimp only
        split
        · exact leaveUp_quiet rfl rfl rfl rfl
        · exact .of_same rfl rfl rfl (fun _ => rfl)
    · cases he; exact .refl s
  case txComplete =>
    unfold execTxComplete at he
    split at he <;> cases he
    · exact .refl s
    · exact .of_same (by simp) (by simp) (by simp) (by simp)
    · exact .of_same (by simp) (by simp) (by simp) (by simp)

/-! ### The entry into a period -/

theorem afterSwap_part (s : State) : (afterSwap s).part = s.nextPart := by
  unfold State.part State.nextPart
  rcases afterSwap_banks s with ⟨ha, e⟩ | ⟨hn, e⟩ <;> rw [e]
  · rw [ha]
  · split
    next ha => exact absurd ha hn
    · rfl
    · rfl

/-- An accumulator after the entry into a period: a touched one is reset by a swap, DONE returns to IDLE, any other stays. -/
theorem enterPeriod_group (k : BoundaryKind) (s : State) (g : GroupId) : (enterPeriod k s).groups[g] =
    if s.banks.state = .armed ∧ s.banks.touchedGroups[g] = true then
      resetTouchedGroup s.banks.shadow.groups[g] s.groups[g]
    else if s.groups[g].state = .done then { s.groups[g] with state := .idle } else s.groups[g] := by
  rw [enterPeriod_get]
  by_cases ha : s.banks.state = .armed
  · have e : afterSwap s = swapBanks s := if_pos ha
    simp only [e, swapBanks_group, ha, true_and]
    by_cases ht : s.banks.touchedGroups[g] = true
    · rw [if_pos ht, if_pos ht, if_neg]
      unfold resetTouchedGroup
      split <;> simp
    · rw [if_neg ht, if_neg ht]
  · have e : afterSwap s = s := if_neg ha
    simp only [e, ha, false_and, if_false]

/-- The entry into a period opens no window. -/
theorem enterPeriod_not_opened {k : BoundaryKind} {s : State} {g : GroupId} (h : s.groups[g].state ≠ .opened) :
    (enterPeriod k s).groups[g].state ≠ .opened := by
  rw [enterPeriod_group]
  split
  · unfold resetTouchedGroup
    split <;> simp
  · split
    · simp
    · exact h

/-! ### The schedule (R1, R5, R19) -/

/-- PT's and CE's part of `ScheduleInv`, over legal banks. -/
def Timed (s : State) : Prop :=
  64 ≤ s.pt.len ∧ s.pt.len ≤ 16384 ∧ s.pt.tick < s.pt.len ∧ s.pt.phase ≤ 15 ∧
  s.banks.active.part.baseLen ≤ s.pt.len + s.banks.active.part.margin ∧
  ∀ g : GroupId, s.groups[g].state = .opened →
    s.banks.active.groups[g].enabled = true ∧ s.pt.tick ≤ s.banks.active.groups[g].closeTick

theorem scheduleInv_iff (s : State) : ScheduleInv s ↔ s.banks.scheduled ∧ Timed s := by
  unfold ScheduleInv Banks.scheduled Timed
  constructor
  · rintro ⟨h1, h2, h3, h4, h5, h6, h7, h8, h9, h10⟩
    exact ⟨⟨h1, h2, h8, h9⟩, h3, h4, h5, h6, h7, h10⟩
  · rintro ⟨⟨h1, h2, h8, h9⟩, h3, h4, h5, h6, h7, h10⟩
    exact ⟨h1, h2, h3, h4, h5, h6, h7, h8, h9, h10⟩

theorem newBase_bounds {r : PartRec} (hr : r.legal) (phase : Nat) :
    64 ≤ newBase r phase ∧ newBase r phase ≤ 16384 ∧ r.baseLen ≤ newBase r phase := by
  obtain ⟨h1, h2, -⟩ := hr
  unfold newBase
  split <;> omega

/-- Under FOLLOW an adjustment is limited to the tolerance, and the length to the range of R5. -/
theorem adjustedLength_follow {r : PartRec} (hr : r.source = .follow) (base : Nat) (d : Int) :
    (adjustedLength r base (some d) : Int) =
      max 64 (min 16384 ((base : Int) + max (-(r.tolerance : Int)) (min d r.tolerance))) := by
  have hmin : Config.minPeriod = 64 := rfl
  have hmax : Config.maxPeriod = 16384 := rfl
  unfold adjustedLength
  rw [hr, min_comm d]
  dsimp only
  generalize (base : Int) + max (-(r.tolerance : Int)) (min r.tolerance d) = x
  split_ifs <;> omega

theorem adjustedLength_free {r : PartRec} (hr : r.source = .free) (base : Nat) (adj : Option Int) :
    adjustedLength r base adj = base := by
  unfold adjustedLength
  rw [hr]
  cases adj <;> rfl

theorem adjustedLength_none (r : PartRec) (base : Nat) : adjustedLength r base none = base := rfl

/-- An adjusted length stays in the range of R5 and at most the tolerance below the base. -/
theorem adjustedLength_bounds {r : PartRec} {base : Nat} (h1 : 64 ≤ base) (h2 : base ≤ 16384) (h3 : r.baseLen ≤ base)
    (h4 : r.baseLen ≤ 16383) (adj : Option Int) :
    64 ≤ adjustedLength r base adj ∧ adjustedLength r base adj ≤ 16384 ∧
    r.baseLen ≤ adjustedLength r base adj + r.margin := by
  cases adj with
  | none => rw [adjustedLength_none]; omega
  | some d =>
    cases hs : r.source with
    | free => rw [adjustedLength_free hs]; omega
    | follow =>
      have hm : r.margin = r.tolerance := by rw [PartRec.margin, hs]
      have e := adjustedLength_follow hs base d
      omega

theorem newPhase_le {r : PartRec} (hr : r.legal) {phase : Nat} (h : phase ≤ 15) : newPhase r phase ≤ 15 := by
  obtain ⟨-, -, hf, -⟩ := hr
  unfold newPhase
  split <;> omega

/-- A boundary or step with no window left OPEN begins a period within the schedule. -/
theorem takeBoundary_timed {k : BoundaryKind} {sch : List BoundaryAct} {s : State} (hbanks : s.banks.scheduled)
    (hphase : s.pt.phase ≤ 15) (hshut : ∀ g : GroupId, s.groups[g].state ≠ .opened) : Timed (takeBoundary k sch s) := by
  obtain ⟨hlegal, -⟩ : (afterSwap s).banks.scheduled := banksKept_scheduled.afterSwap s hbanks
  have hpart : (afterSwap s).part.legal := hlegal.1
  unfold Timed
  simp only [takeBoundary_frame]
  change _ ∧ _ ∧ _ ∧ _ ∧ (afterSwap s).part.baseLen ≤ _ + (afterSwap s).part.margin ∧ _
  obtain ⟨hb1, hb2, hb3⟩ := newBase_bounds hpart s.pt.phase
  have hlen : 64 ≤ (beginPeriod k (afterSwap s).part s.pt).len ∧ (beginPeriod k (afterSwap s).part s.pt).len ≤ 16384 ∧
      (afterSwap s).part.baseLen ≤ (beginPeriod k (afterSwap s).part s.pt).len + (afterSwap s).part.margin := by
    cases k
    · exact adjustedLength_bounds hb1 hb2 hb3 hpart.2.1 _
    · exact ⟨hb1, hb2, Nat.le_add_right_of_le hb3⟩
  exact ⟨hlen.1, hlen.2.1, Nat.lt_of_lt_of_le (by decide : 0 < 64) hlen.1, newPhase_le hpart hphase, hlen.2.2,
    fun g ho => absurd ho (enterPeriod_not_opened (hshut g))⟩

theorem tickMayEnd_iff (s : State) : tickMayEnd s = true ↔ (∀ g, windowPending s g = false) ∧ s.tf.handed = [] ∧
    s.pt.stepRequest = none ∧ softResetDue s = false ∧ requestDue s = false ∧
    (s.banks.state = .refresh → s.banks.copyAge < 80) := by
  unfold tickMayEnd
  simp only [Bool.and_eq_true, Bool.not_eq_true', List.any_eq_false, allGroups, List.mem_finRange, forall_const,
    List.isEmpty_iff, Option.isNone_iff_eq_none, Bool.not_eq_true, Bool.or_eq_true, bne_iff_ne, decide_eq_true_eq,
    and_assoc, ne_eq, ← imp_iff_not_or]
  rfl

/-- An OPEN window whose CLOSE is not pending closes at a later tick. -/
theorem tick_lt_closeTick {s : State} (h : Timed s) {g : GroupId} (hpending : windowPending s g = false)
    (ho : s.groups[g].state = .opened) : s.pt.tick < s.banks.active.groups[g].closeTick := by
  obtain ⟨-, -, -, -, -, hopen⟩ := h
  obtain ⟨hen, hle⟩ := hopen g ho
  refine Nat.lt_of_le_of_ne hle (fun heq => ?_)
  have : windowPending s g = true := by
    simp [-Fin.getElem_fin, windowPending, closeDue, scheduled, State.groupRec, ho, hen, heq]
  exact absurd (this.symm.trans hpending) nofun

/-- Settles O25: an OPEN window would have its CLOSE pending at the last tick, which then could not end. -/
theorem noWindowIsOpenAtABoundary : Obligations.NoWindowIsOpenAtABoundary := by
  intro s hinv ⟨hmay, hdue⟩ g ho
  obtain ⟨⟨-, -, hfit, -⟩, htimed⟩ := (scheduleInv_iff s).mp hinv
  have hlt := tick_lt_closeTick htimed (((tickMayEnd_iff s).mp hmay).1 g) ho
  obtain ⟨-, -, -, -, hbase, hopen⟩ := htimed
  have := hfit g (hopen g ho).1
  omega

theorem ageCopy_scheduleInv {s : State} (h : ScheduleInv s) : ScheduleInv (ageCopy s) := by
  rw [scheduleInv_iff] at *
  refine ⟨banksKept_scheduled.ageCopy s h.1, ?_⟩
  have htimed := h.2
  unfold Timed at htimed ⊢
  simpa using htimed

/-- A quiet command keeps the schedule: an opened window opens at its open_tick, before its close_tick. -/
theorem Quiet.timed {s t : State} (h : Quiet s t) (hlegal : s.banks.active.legal) (htimed : Timed s) : Timed t := by
  obtain ⟨hlen, hlen', htick, hphase, hbase, hopen⟩ := htimed
  unfold Timed
  rw [h.pt, h.active]
  refine ⟨hlen, hlen', htick, hphase, hbase, fun g ho => ?_⟩
  rcases h.groups g with e | ⟨hdue, -, -⟩ | ⟨-, e | e⟩
  · exact hopen g (e ▸ ho)
  · simp only [openDue, scheduled, State.groupRec, Bool.and_eq_true, beq_iff_eq] at hdue
    obtain ⟨-, hlt, -⟩ := hlegal.2 g
    exact ⟨hdue.1.1, by omega⟩
  · exact absurd (e.symm.trans ho) nofun
  · exact absurd (e.symm.trans ho) nofun

theorem mem_allGroups (g : GroupId) : g ∈ allGroups := List.mem_finRange g

/-- Once the forced closes of a step are done no window is OPEN (R12, R41). -/
theorem forceCloses_all_shut (first : List GroupId) (s : State) (g : GroupId) :
    (forceCloses (first ++ allGroups) s).groups[g].state ≠ .opened := by
  rw [forceCloses_state]
  split
  · exact (afterClose_ne _).2.2
  next h => exact fun ho => h ⟨ho, List.mem_append_right _ (mem_allGroups g)⟩

theorem forceCloses_timed {s : State} (l : List GroupId) (h : Timed s) : Timed (forceCloses l s) := by
  obtain ⟨hlen, hlen', htick, hphase, hbase, hopen⟩ := h
  unfold Timed
  simp only [forceCloses_frame]
  refine ⟨hlen, hlen', htick, hphase, hbase, fun g ho => ?_⟩
  rw [forceCloses_state] at ho
  split at ho
  · exact absurd ho (afterClose_ne _).2.2
  · exact hopen g ho

/-- Taking a SYNC changes of PT the pending values and the step's request alone. -/
theorem takeSync_pt (s : State) : (takeSync s).pt = { s.pt with
    pendingAdj := (takeSync s).pt.pendingAdj, pendingNum := (takeSync s).pt.pendingNum
    stepRequest := (takeSync s).pt.stepRequest } := by
  rcases takeSync_cases s with ⟨-, e⟩ | ⟨n, rest, -, e⟩ <;> rw [e]
  generalize hu : s.modTf _ = u
  have hpt : u.pt = s.pt := by rw [← hu]; rfl
  rcases actOnSync_cases n (syncOffset s.pt.tick s.pt.len) u with
    ⟨-, e⟩ | ⟨-, e⟩ | ⟨-, -, e⟩ | ⟨-, -, e⟩ | ⟨-, -, e⟩ <;> rw [e] <;> simp [hpt]

theorem takeSyncFirst_pt (closes : ForcedCloses) (s : State) : (takeSyncFirst closes s).pt = { s.pt with
    pendingAdj := (takeSyncFirst closes s).pt.pendingAdj, pendingNum := (takeSyncFirst closes s).pt.pendingNum
    stepRequest := (takeSyncFirst closes s).pt.stepRequest } := by
  rcases takeSyncFirst_cases closes s with ⟨-, e⟩ | ⟨-, -, e⟩ <;> rw [e]
  exact takeSync_pt s

theorem takeSyncFirst_timed {s : State} (closes : ForcedCloses) (h : Timed s) : Timed (takeSyncFirst closes s) := by
  unfold Timed at *
  rw [takeSyncFirst_pt]
  simpa using h

theorem carryStep_timed {closes : ForcedCloses} {sch : List BoundaryAct} {s : State} (hbanks : s.banks.scheduled)
    (h : Timed s) : Timed (carryStep closes sch s) := by
  rcases carryStep_cases closes sch s with ⟨-, e⟩ | ⟨l, -, e, -⟩ | ⟨n, l, -, -, -, e⟩ <;> rw [e]
  · exact h
  · exact forceCloses_timed l h
  · obtain ⟨-, -, -, hphase, -⟩ := h
    exact takeBoundary_timed (by simpa using hbanks) (by simpa using hphase) (forceCloses_all_shut l s)

theorem softResetAll_not_opened (s : State) (g : GroupId) : (softResetAll s).groups[g].state ≠ .opened := by
  rw [softResetAll_groups]
  unfold softResetGroup
  split <;> simp

theorem softResetAll_timed {s : State} (hbanks : s.banks.scheduled) : Timed (softResetAll s) := by
  obtain ⟨⟨⟨h1, h2, -⟩, -⟩, -⟩ := hbanks
  have hactive : (softResetAll s).banks.active = s.banks.active := (softResetBanks_frame s.banks).1
  unfold Timed
  rw [hactive, (softResetAll_frame s).1]
  exact ⟨h1, Nat.le_succ_of_le h2, Nat.lt_of_lt_of_le (by decide : 0 < 64) h1, Nat.zero_le _, Nat.le_add_right _ _,
    fun g ho => absurd ho (softResetAll_not_opened s g)⟩

theorem reset_group (g : GroupId) : State.reset.groups[g] = Accum.powerOn := Vector.getElem_replicate _

theorem reset_scheduleInv : ScheduleInv State.reset := by
  rw [scheduleInv_iff]
  refine ⟨banksKept_scheduled.powerOn, ?_⟩
  refine ⟨by decide, by decide, by decide, by decide, by decide, fun g ho => ?_⟩
  rw [reset_group] at ho
  exact absurd ho nofun

theorem exec_keeps_timed (c : Instr) (s t : State) (h : ScheduleInv s) (he : exec c s = .next t) : Timed t := by
  obtain ⟨hbanks, htimed⟩ := (scheduleInv_iff s).mp h
  by_cases hq : Instr.isQuiet c = true
  · exact (exec_quiet hq he).timed hbanks.1 htimed
  cases c <;> first | exact absurd rfl hq | simp only [exec] at he
  case powerOnReset =>
    rw [← next_inj he]
    exact ((scheduleInv_iff _).mp reset_scheduleInv).2
  case softReset =>
    unfold execSoftReset at he
    split at he <;> cases he
    exacts [softResetAll_timed hbanks, htimed]
  case tickEnd =>
    unfold execTickEnd at he
    split at he <;> cases he
    next hc =>
      obtain ⟨hlen, hlen', htick, hphase, hbase, hopen⟩ := id htimed
      have hpending := ((tickMayEnd_iff s).mp hc.1).1
      unfold Timed
      simp only [State.modPt_pt, State.modPt_banks, State.modPt_groups, ageCopy_frame]
      exact ⟨hlen, hlen', hc.2, hphase, hbase, fun g ho =>
        ⟨(hopen g ho).1, tick_lt_closeTick htimed (hpending g) ho⟩⟩
    · exact htimed
  case boundary =>
    unfold execBoundary at he
    split at he <;> cases he
    next hc =>
      obtain ⟨hbanks', -, -, -, hphase, -⟩ := (scheduleInv_iff _).mp (ageCopy_scheduleInv h)
      refine takeBoundary_timed hbanks' hphase (fun g => ?_)
      rw [(ageCopy_frame s).2.2.1]
      exact noWindowIsOpenAtABoundary s h ⟨hc.1, Nat.le_of_not_lt hc.2⟩ g
    · exact htimed
  case syncTaken =>
    rw [← next_inj he]
    exact carryStep_timed (by simpa using hbanks) (takeSyncFirst_timed _ htimed)

theorem exec_keeps_schedule (c : Instr) (s t : State) (h : ScheduleInv s) (he : exec c s = .next t) : ScheduleInv t :=
  (scheduleInv_iff t).mpr
    ⟨exec_keeps_banks banksKept_scheduled c s t ((scheduleInv_iff s).mp h).1 he, exec_keeps_timed c s t h he⟩

/-- Settles O7. -/
theorem stepsKeepTheSchedule : Obligations.StepsKeepTheSchedule :=
  step_keeps ScheduleInv (fun _ _ h => h) exec_keeps_schedule

/-! ### The accumulators (R16, R18) -/

/-- An accumulator is OFF exactly when its group is disabled in the active bank. -/
def OffMatches (s : State) : Prop := ∀ g : GroupId, s.groups[g].state = .off ↔ s.banks.active.groups[g].enabled = false

theorem takeBoundary_offMatches {k : BoundaryKind} {sch : List BoundaryAct} {s : State} (hbanks : BanksInv s)
    (h : OffMatches s) : OffMatches (takeBoundary k sch s) := by
  intro g
  obtain ⟨-, hunmarked, -⟩ := hbanks
  simp only [takeBoundary_frame, enterPeriod_group]
  rcases afterSwap_banks s with ⟨ha, e⟩ | ⟨hn, e⟩
  · simp only [e, ha, true_and]
    split
    · unfold resetTouchedGroup
      cases s.banks.shadow.groups[g].enabled <;> simp
    next ht =>
      rw [hunmarked g (by simpa using ht), ← h g]
      split
      next hd => simp [-Fin.getElem_fin, hd]
      · rfl
  · simp only [e, hn, false_and, if_false]
    rw [← h g]
    split
    next hd => simp [-Fin.getElem_fin, hd]
    · rfl

theorem forceCloses_offMatches {s : State} (l : List GroupId) (h : OffMatches s) : OffMatches (forceCloses l s) := by
  intro g
  simp only [forceCloses_frame, forceCloses_state]
  rw [← h g]
  split
  next ho => simp [-Fin.getElem_fin, ho.1, (afterClose_ne (s.groupRec g).mode).1]
  · rfl

theorem Quiet.offMatches {s t : State} (hq : Quiet s t) (h : OffMatches s) : OffMatches t := by
  intro g
  rw [hq.active, ← h g]
  rcases hq.groups g with e | ⟨-, e, e'⟩ | ⟨e, e' | e'⟩ <;> rw [e]
  all_goals rw [e']; simp

theorem exec_keeps_offMatches (c : Instr) (s t : State) (h : GroupsInv s) (he : exec c s = .next t) : OffMatches t := by
  obtain ⟨hbanks, hoff⟩ := h
  by_cases hq : Instr.isQuiet c = true
  · exact (exec_quiet hq he).offMatches hoff
  cases c <;> first | exact absurd rfl hq | simp only [exec] at he
  case powerOnReset =>
    rw [← next_inj he]
    intro g
    exact iff_of_true (congrArg Accum.state (reset_group g))
      (congrArg GroupRec.enabled (Vector.getElem_replicate (a := GroupRec.default) g.isLt))
  case softReset =>
    unfold execSoftReset at he
    split at he <;> cases he
    · intro g
      have hactive : (softResetAll s).banks.active = s.banks.active := (softResetBanks_frame s.banks).1
      rw [softResetAll_groups, hactive]
      unfold softResetGroup State.groupRec
      cases s.banks.active.groups[g].enabled <;> simp
    · exact hoff
  case tickEnd =>
    unfold execTickEnd at he
    split at he <;> cases he
    · intro g
      simpa using hoff g
    · exact hoff
  case boundary =>
    unfold execBoundary at he
    split at he <;> cases he
    · exact takeBoundary_offMatches (banksKept_matched.ageCopy s hbanks) (fun g => by simpa using hoff g)
    · exact hoff
  case syncTaken closes sch =>
    rw [← next_inj he]
    have hfirst : OffMatches (takeSyncFirst closes s) := fun g => by simpa using hoff g
    have hbanks' : BanksInv (takeSyncFirst closes s) := by simpa [banksInv_iff] using hbanks
    rcases carryStep_cases closes sch (takeSyncFirst closes s) with ⟨-, e⟩ | ⟨l, -, e, -⟩ | ⟨n, l, -, -, -, e⟩ <;> rw [e]
    · exact hfirst
    · exact forceCloses_offMatches l hfirst
    · exact takeBoundary_offMatches (by simpa [banksInv_iff] using hbanks) (forceCloses_offMatches _ hfirst)

/-- Settles O9. -/
theorem stepsKeepTheGroups : Obligations.StepsKeepTheGroups :=
  step_keeps GroupsInv (fun _ _ h => h) (fun c s t h he =>
    ⟨exec_keeps_banksInv c s t h.1 he, exec_keeps_offMatches c s t h he⟩)

end Sys2Proof.Machine
end

section
/-!
The order of a boundary's actions (R7, R125, R143, R155, R171, R183): what a lawful schedule gives of its parts, and the
schemes of the proofs over it.
-/

namespace Sys2Proof.Machine

/-! ### Lawful orders -/

/-- `a` may come before `b`: nothing of the swap follows TF's own action, the SYNC cells or the sending, and the lease is
not counted after the sending. -/
def mayPrecede (a b : BoundaryAct) : Prop :=
  (b ∈ swapActs → a ≠ .silent ∧ a ≠ .syncOut ∧ a ≠ .send) ∧ (b = .lease → a ≠ .send)

/-- The actions still to be taken of a lawful schedule: none twice, in an order the rules allow. -/
def Orderly (l : List BoundaryAct) : Prop := l.Nodup ∧ l.Pairwise mayPrecede

theorem Orderly.tail {a : BoundaryAct} {l : List BoundaryAct} (h : Orderly (a :: l)) :
    a ∉ l ∧ (∀ b ∈ l, mayPrecede a b) ∧ Orderly l := by
  obtain ⟨hnodup, hpair⟩ := h
  obtain ⟨hmem, hnodup⟩ := List.nodup_cons.mp hnodup
  obtain ⟨hbefore, hpair⟩ := List.pairwise_cons.mp hpair
  exact ⟨hmem, hbefore, hnodup, hpair⟩

theorem Orderly.sublist {l l' : List BoundaryAct} (h : Orderly l) (hs : l'.Sublist l) : Orderly l' :=
  ⟨h.1.sublist hs, h.2.sublist hs⟩

/-- Once TF's own action, the SYNC cells or the sending are taken, nothing of the swap is left. -/
theorem Orderly.swap_done {a : BoundaryAct} {l : List BoundaryAct} (h : Orderly (a :: l))
    (ha : a = .silent ∨ a = .syncOut ∨ a = .send) {b : BoundaryAct} (hb : b ∈ swapActs) : b ∉ l := by
  intro hmem
  obtain ⟨h1, h2, h3⟩ := ((h.tail.2.1 b hmem).1 hb)
  rcases ha with rfl | rfl | rfl
  exacts [h1 rfl, h2 rfl, h3 rfl]

theorem standardSchedule_nodup : standardSchedule.Nodup := by decide

/-- A permutation of the standard schedule with the orders that single rules state is orderly. -/
theorem orderly_of_lawful {l : List BoundaryAct} (h : lawfulSchedule l = true) : l.Perm standardSchedule ∧ Orderly l := by
  simp only [lawfulSchedule, Bool.and_eq_true, List.isPerm_iff, List.all_eq_true, standsBefore, decide_eq_true_eq] at h
  obtain ⟨⟨hperm, hswap⟩, hlease⟩ := h
  have hnodup : l.Nodup := hperm.nodup_iff.mpr standardSchedule_nodup
  refine ⟨hperm, hnodup, List.pairwise_iff_getElem.mpr fun i j hi hj hij => ?_⟩
  have hidx : ∀ {k : Nat} (hk : k < l.length), l.idxOf l[k] = k := fun hk => hnodup.idxOf_getElem _ hk
  have before : ∀ x, l.idxOf l[j] < l.idxOf x → l[i] ≠ x := by
    rintro x hx rfl
    rw [hidx, hidx] at hx
    omega
  refine ⟨fun hb => ?_, fun hb => ?_⟩
  · obtain ⟨⟨h1, h2⟩, h3⟩ := hswap _ hb
    exact ⟨before _ h1, before _ h2, before _ h3⟩
  · exact before _ (hb ▸ hlease)

theorem lawful_standardSchedule : lawfulSchedule standardSchedule = true := by decide

theorem effectiveSchedule_lawful (l : List BoundaryAct) : lawfulSchedule (effectiveSchedule l) = true := by
  unfold effectiveSchedule
  split
  · assumption
  · exact lawful_standardSchedule

theorem effectiveSchedule_orderly (l : List BoundaryAct) : Orderly (effectiveSchedule l) :=
  (orderly_of_lawful (effectiveSchedule_lawful l)).2

theorem effectiveSchedule_perm (l : List BoundaryAct) : (effectiveSchedule l).Perm standardSchedule :=
  (orderly_of_lawful (effectiveSchedule_lawful l)).1

/-- Every action stands in every schedule. -/
theorem mem_effectiveSchedule (l : List BoundaryAct) (a : BoundaryAct) : a ∈ effectiveSchedule l := by
  rw [(effectiveSchedule_perm l).mem_iff]
  cases a
  case port p => revert p; decide
  all_goals decide

/-! ### The schemes -/

/-- The scheme of a property that speaks of the actions still to be taken. -/
theorem schedule_keeps (P : List BoundaryAct → State → Prop) (w : Swap)
    (h : ∀ a l s, Orderly (a :: l) → P (a :: l) s → P l (boundaryAct w s a)) :
    ∀ (l : List BoundaryAct) (s : State), Orderly l → P l s → P [] (l.foldl (boundaryAct w) s)
  | [], _, _, hs => hs
  | a :: l, s, ho, hs => schedule_keeps P w h l _ ho.tail.2.2 (h a l s ho hs)

theorem takeBoundary_schedule_keeps (P : List BoundaryAct → State → Prop) (k : BoundaryKind) (sch : List BoundaryAct)
    (s : State) (h : ∀ a l t, Orderly (a :: l) → P (a :: l) t → P l (boundaryAct (swapOf s) t a))
    (h0 : P (effectiveSchedule sch) (enterPeriod k s)) : P [] (takeBoundary k sch s) :=
  schedule_keeps P _ h _ _ (effectiveSchedule_orderly sch) h0

/-- Of a fold, the steps that change nothing of a part can be left out. -/
theorem foldl_filter_noop {α β : Type} (f : α → β → α) (p : β → Bool) (h : ∀ a b, p b = false → f a b = a)
    (l : List β) (a : α) : l.foldl f a = (l.filter p).foldl f a := by
  induction l generalizing a with
  | nil => rfl
  | cons b l ih =>
    cases hb : p b
    · rw [List.foldl_cons, h a b hb, List.filter_cons_of_neg (by simp [hb]), ih]
    · rw [List.foldl_cons, List.filter_cons_of_pos hb, List.foldl_cons, ih]

/-- A part of the state that every action changes by itself alone changes over a schedule by the actions' own effects. -/
theorem foldl_part {γ : Type} (g : State → γ) (P : State → Prop) (w : Swap) (f : γ → BoundaryAct → γ)
    (hP : ∀ s a, P s → P (boundaryAct w s a)) (h : ∀ s a, P s → g (boundaryAct w s a) = f (g s) a) :
    ∀ (l : List BoundaryAct) (s : State), P s → g (l.foldl (boundaryAct w) s) = l.foldl f (g s)
  | [], _, _ => rfl
  | a :: l, s, hs => by
    rw [List.foldl_cons, List.foldl_cons, foldl_part g P w f hP h l _ (hP s a hs), h s a hs]

/-! ### The timing state over a schedule (R141 to R143) -/

/-- The actions that reach TF. -/
def reachesFollower (a : BoundaryAct) : Bool :=
  match a with
  | .reevaluate | .timingLoss | .silent => true
  | .commitApplied | .port _ | .lease | .syncOut | .send => false

/-- Of a schedule, TF's actions: the re-evaluation and the loss in either order, then the silent check. -/
theorem followerActs (l : List BoundaryAct) :
    (effectiveSchedule l).filter reachesFollower = [.reevaluate, .timingLoss, .silent] ∨
    (effectiveSchedule l).filter reachesFollower = [.timingLoss, .reevaluate, .silent] := by
  have hperm := (effectiveSchedule_perm l).filter reachesFollower
  have hord := (effectiveSchedule_orderly l).sublist (List.filter_sublist (p := reachesFollower))
  generalize (effectiveSchedule l).filter reachesFollower = m at hperm hord
  have hmem : m ∈ [BoundaryAct.reevaluate, .timingLoss, .silent].permutations :=
    List.mem_permutations.mpr hperm
  obtain ⟨-, hpair⟩ := hord
  have hlist : [BoundaryAct.reevaluate, .timingLoss, .silent].permutations =
    [[.reevaluate, .timingLoss, .silent], [.timingLoss, .reevaluate, .silent], [.silent, .timingLoss, .reevaluate],
      [.timingLoss, .silent, .reevaluate], [.silent, .reevaluate, .timingLoss], [.reevaluate, .silent, .timingLoss]] := by
    simp [List.permutations, List.permutationsAux_cons, List.permutationsAux2]
  rw [hlist] at hmem
  simp only [List.mem_cons, List.not_mem_nil, or_false] at hmem
  rcases hmem with rfl | rfl | rfl | rfl | rfl | rfl
  · exact .inl rfl
  · exact .inr rfl
  all_goals
    simp [mayPrecede, swapActs] at hpair

/-- TF after the re-evaluation (R143). -/
def Follower.reevaluate (w : Swap) (r : PartRec) (f : Follower) : Follower :=
  if w.taken && w.partTouched then
    if (reevaluated w.old r f.state).2 then
      { f with state := (reevaluated w.old r f.state).1, miss := 0, silent := 0, seen := false }
    else { f with state := (reevaluated w.old r f.state).1 }
  else f

/-- TF after the loss of its timing port (R142). -/
def Follower.lose (w : Swap) (f : Follower) : Follower :=
  if w.timingLost = true ∧ f.state = .locked then { f with state := .holdover } else f

/-- TF after the silent check (R141). -/
def Follower.check (w : Swap) (r : PartRec) (f : Follower) : Follower :=
  if skipsSilentCheck w r = true ∨ f.state = .free then f
  else if f.state = .locked ∧ 8 ≤ f.checkedSilent.toNat then
    { f with state := .holdover, silent := f.checkedSilent, seen := false, syncMissing := satAdd f.syncMissing 1 }
  else { f with silent := f.checkedSilent, seen := false }

/-- What one action does to TF. -/
def Follower.act (w : Swap) (r : PartRec) (f : Follower) (a : BoundaryAct) : Follower :=
  match a with
  | .reevaluate => f.reevaluate w r
  | .timingLoss => f.lose w
  | .silent => f.check w r
  | .commitApplied | .port _ | .lease | .syncOut | .send => f

theorem silentCheck_tf (s : State) : (silentCheck s).tf =
    if s.tf.state = .free then s.tf
    else if s.tf.state = .locked ∧ 8 ≤ s.tf.checkedSilent.toNat then
      { s.tf with
        state := .holdover, silent := s.tf.checkedSilent, seen := false, syncMissing := satAdd s.tf.syncMissing 1 }
    else { s.tf with silent := s.tf.checkedSilent, seen := false } := by
  unfold silentCheck
  split
  · rfl
  · dsimp only
    generalize ht : (if s.tf.seen = true then s else s.modTf (fun f => { f with silent := satInc f.silent })) = t
    have htf : t.tf = { s.tf with silent := s.tf.checkedSilent } := by
      rw [← ht]
      unfold Follower.checkedSilent
      split <;> rfl
    rw [State.modTf_tf]
    by_cases hdue : s.tf.state = .locked ∧ 8 ≤ s.tf.checkedSilent.toNat
    · have : syncMissingDue t = true := by
        simp [syncMissingDue, htf, Config.silentLimit, hdue.1, hdue.2]
      rw [if_pos this, if_pos hdue]
      simp [loseLockBySilence, htf]
      rfl
    · have : ¬ syncMissingDue t = true := by
        simpa [syncMissingDue, htf, Config.silentLimit] using hdue
      rw [if_neg this, if_neg hdue, htf]

theorem reevaluate_tf (old : PartRec) (s : State) : (reevaluate old s).tf =
    if (reevaluated old s.part s.tf.state).2 then
      { s.tf with state := (reevaluated old s.part s.tf.state).1, miss := 0, silent := 0, seen := false }
    else { s.tf with state := (reevaluated old s.part s.tf.state).1 } := by
  unfold reevaluate
  dsimp only
  split <;> rfl

theorem boundaryAct_tf (w : Swap) (s : State) (a : BoundaryAct) :
    (boundaryAct w s a).tf = s.tf.act w s.part a := by
  cases a <;> simp only [boundaryAct, Follower.act]
  case commitApplied => split <;> rfl
  case reevaluate =>
    unfold Follower.reevaluate
    split
    · exact reevaluate_tf _ _
    · rfl
  case timingLoss =>
    unfold Follower.lose
    by_cases hl : w.timingLost = true
    · rw [if_pos hl, timingPortLost_tf]
      simp only [hl, true_and]
    · rw [if_neg hl, if_neg (fun h => hl h.1)]
  case port p => split <;> simp
  case lease => simp
  case silent =>
    unfold Follower.check
    split
    next h => rw [if_pos (.inl h)]
    next h =>
      rw [silentCheck_tf]
      by_cases hf : s.tf.state = .free
      · rw [if_pos hf, if_pos (.inr hf)]
      · rw [if_neg hf, if_neg (not_or.mpr ⟨h, hf⟩)]
  case syncOut => exact foldl_frame State.tf _ (fun t p => by simp) _ _
  case send => simp

theorem boundaryAct_part (w : Swap) (s : State) (a : BoundaryAct) : (boundaryAct w s a).part = s.part := by
  simp [State.part]

/-- TF after a boundary or step: the re-evaluation and the loss in either order, then the silent check. -/
theorem takeBoundary_tf (k : BoundaryKind) (sch : List BoundaryAct) (s : State) :
    (takeBoundary k sch s).tf = ((s.tf.reevaluate (swapOf s) s.nextPart).lose (swapOf s)).check (swapOf s) s.nextPart ∨
    (takeBoundary k sch s).tf = ((s.tf.lose (swapOf s)).reevaluate (swapOf s) s.nextPart).check (swapOf s) s.nextPart := by
  have hpart : (enterPeriod k s).part = s.nextPart := by
    rw [← afterSwap_part]
    simp [State.part]
  have hfold : (takeBoundary k sch s).tf =
      ((effectiveSchedule sch).filter reachesFollower).foldl (Follower.act (swapOf s) s.nextPart) s.tf := by
    rw [← foldl_filter_noop _ _ (fun f a ha => by cases a <;> first | rfl | exact absurd ha nofun)]
    refine (foldl_part (·.tf) (fun t => t.part = s.nextPart) _ (Follower.act (swapOf s) s.nextPart)
      (fun t a ht => (boundaryAct_part _ t a).trans ht) (fun t a ht => ?_) _ _ hpart).trans (by simp)
    rw [boundaryAct_tf, ht]
  rcases followerActs sch with e | e <;> rw [hfold, e]
  · exact .inl rfl
  · exact .inr rfl

end Sys2Proof.Machine
end

section
/-!
The timing state under every command (O8).
-/

namespace Sys2Proof.Machine

/-! ### FREE over a boundary -/

theorem Follower.check_free (w : Swap) (r : PartRec) (f : Follower) : (f.check w r).state = .free ↔ f.state = .free := by
  unfold Follower.check
  split
  · rfl
  next h =>
    split
    next hl => simp [hl.1]
    · rfl

theorem Follower.lose_free (w : Swap) (f : Follower) : (f.lose w).state = .free ↔ f.state = .free := by
  unfold Follower.lose
  split
  next h => simp [h.2]
  · rfl

/-- R143 ends in FREE exactly when the new source is FREE. -/
theorem reevaluated_free {old new : PartRec} {t : TimingState} (h : t = .free ↔ old.source = .free) :
    (reevaluated old new t).1 = .free ↔ new.source = .free := by
  unfold reevaluated
  cases ho : old.source <;> cases hn : new.source <;> simp [ho] at h ⊢
  split <;> simp [h]

theorem Follower.reevaluate_free {w : Swap} {r : PartRec} {f : Follower} (h : f.state = .free ↔ w.old.source = .free)
    (hkeep : ¬ (w.taken && w.partTouched) = true → r.source = w.old.source) :
    (f.reevaluate w r).state = .free ↔ r.source = .free := by
  unfold Follower.reevaluate
  split
  · split <;> exact reevaluated_free h
  next hn => rw [h, hkeep hn]

/-- An untouched Part record is the same after a swap (R111, R127). -/
theorem nextPart_of_untouched {s : State} (hbanks : BanksInv s)
    (h : s.banks.state = .armed → s.banks.touchedPart = false) : s.nextPart = s.part := by
  unfold State.nextPart
  obtain ⟨-, -, hpart, -⟩ := hbanks
  split
  next ha => exact hpart (h ha)
  · rfl
  · rfl

theorem nextPart_of_not_armed {s : State} (h : s.banks.state ≠ .armed) : s.nextPart = s.part := by
  unfold State.nextPart
  split
  next ha => exact absurd ha h
  · rfl
  · rfl

theorem nextPart_of_armed {s : State} (h : s.banks.state = .armed) : s.nextPart = s.banks.shadow.part := by
  unfold State.nextPart
  rw [h]

theorem takeBoundary_part (k : BoundaryKind) (sch : List BoundaryAct) (s : State) :
    (takeBoundary k sch s).part = s.nextPart := by
  rw [← afterSwap_part]
  unfold State.part
  rw [(takeBoundary_frame k sch s).2.2.2.1]

theorem takeBoundary_free {k : BoundaryKind} {sch : List BoundaryAct} {s : State} (hbanks : BanksInv s)
    (h : s.tf.state = .free ↔ s.part.source = .free) :
    (takeBoundary k sch s).tf.state = .free ↔ s.nextPart.source = .free := by
  have hkeep : ¬ ((swapOf s).taken && (swapOf s).partTouched) = true → s.nextPart.source = (swapOf s).old.source := by
    intro hn
    rw [nextPart_of_untouched hbanks (fun ha => by simpa [swapOf, ha] using hn)]
    rfl
  rcases takeBoundary_tf k sch s with e | e <;> rw [e, Follower.check_free]
  · rw [Follower.lose_free, Follower.reevaluate_free h hkeep]
  · exact Follower.reevaluate_free ((Follower.lose_free _ _).trans h) hkeep

theorem takeBoundary_handed (k : BoundaryKind) (sch : List BoundaryAct) (s : State) :
    (takeBoundary k sch s).tf.handed = s.tf.handed := by
  have hr : ∀ f : Follower, (f.reevaluate (swapOf s) s.nextPart).handed = f.handed := by
    intro f
    unfold Follower.reevaluate
    split
    · split <;> rfl
    · rfl
  have hl : ∀ f : Follower, (f.lose (swapOf s)).handed = f.handed := by
    intro f
    unfold Follower.lose
    split <;> rfl
  have hc : ∀ f : Follower, (f.check (swapOf s) s.nextPart).handed = f.handed := by
    intro f
    unfold Follower.check
    split
    · rfl
    · split <;> rfl
  rcases takeBoundary_tf k sch s with e | e <;> rw [e, hc]
  · rw [hl, hr]
  · rw [hr, hl]

/-- A boundary or step keeps the timing state when no SYNC is left that a swap to FREE would strand. -/
theorem takeBoundary_timingInv {k : BoundaryKind} {sch : List BoundaryAct} {s : State} (h : TimingInv s)
    (hsync : MovesTiming s → s.tf.handed = []) : TimingInv (takeBoundary k sch s) := by
  obtain ⟨hbanks, hfree, hhanded, -⟩ := h
  refine ⟨?_, ?_, fun hs => ?_, fun _ => ?_⟩
  · rw [banksInv_iff, (takeBoundary_frame k sch s).2.2.2.1]
    exact banksKept_matched.afterSwap s hbanks
  · rw [takeBoundary_part]
    exact takeBoundary_free hbanks hfree
  · rw [takeBoundary_part] at hs
    rw [takeBoundary_handed]
    by_cases hm : MovesTiming s
    · exact hsync hm
    · refine hhanded ?_
      by_cases ha : s.banks.state = .armed
      · rw [nextPart_of_armed ha] at hs
        by_contra hne
        exact hm ⟨ha, .inl (fun e => hne (e ▸ hs))⟩
      · rwa [nextPart_of_not_armed ha] at hs
  · rw [(takeBoundary_frame k sch s).1]
    rfl

/-! ### FREE under a SYNC taken -/

/-- Under FREE no SYNC waits, and a SYNC taken in another state never ends in FREE. -/
theorem takeSync_timingInv {s : State} (h : TimingInv s) : TimingInv (takeSync s) := by
  obtain ⟨hbanks, hfree, hhanded, hstep⟩ := h
  rcases takeSync_cases s with ⟨-, e⟩ | ⟨n, rest, hn, e⟩
  · rw [e]
    exact ⟨hbanks, hfree, hhanded, hstep⟩
  have hfollow : ¬ s.part.source = .free := fun hs => by simp [hhanded hs] at hn
  have hpart : (takeSync s).part = s.part := by simp [State.part]
  have hnot : ¬ (takeSync s).tf.state = .free := by
    have hs : ¬ s.tf.state = .free := fun hs => hfollow (hfree.mp hs)
    rw [e]
    generalize hu : s.modTf _ = u
    have hus : u.tf.state = s.tf.state := by rw [← hu]; rfl
    rcases actOnSync_cases n (syncOffset s.pt.tick s.pt.len) u with
      ⟨hf, -⟩ | ⟨-, e⟩ | ⟨-, -, e⟩ | ⟨hl, -, e⟩ | ⟨-, -, e⟩
    · exact absurd (hus.symm.trans hf) hs
    · simp [e]
    · simp [e]
    · rw [e]
      unfold missSync giveUpLock
      dsimp only
      split
      · simp
      · simp [hl]
    · simp [e]
  rw [← hpart] at hfollow
  exact ⟨by simpa [banksInv_iff] using hbanks, iff_of_false hnot hfollow, fun hs => absurd hs hfollow,
    fun hs => absurd hs hfollow⟩

theorem forceCloses_timingInv {s : State} (l : List GroupId) (h : TimingInv s) : TimingInv (forceCloses l s) := by
  unfold TimingInv State.part at *
  rw [banksInv_iff] at *
  simpa using h

theorem carryStep_timingInv {closes : ForcedCloses} {sch : List BoundaryAct} {s : State} (h : TimingInv s) :
    TimingInv (carryStep closes sch s) := by
  rcases carryStep_cases closes sch s with ⟨-, e⟩ | ⟨l, -, e, -⟩ | ⟨n, l, -, -, hw, e⟩ <;> rw [e]
  · exact h
  · exact forceCloses_timingInv l h
  · refine takeBoundary_timingInv (forceCloses_timingInv _ h) (fun hm => ?_)
    rw [(forceCloses_frame _ s).2.1]
    refine hw ((swapMovesTiming_iff s).mpr ?_)
    unfold MovesTiming at *
    simpa using hm

/-! ### Every command -/

theorem Quiet.timingInv {s t : State} (hq : Quiet s t) (hbanks : BanksInv t) (h : TimingInv s) : TimingInv t := by
  obtain ⟨-, hfree, hhanded, hstep⟩ := h
  have hpart : t.part = s.part := congrArg Bank.part hq.active
  refine ⟨hbanks, ?_, fun hs => ?_, fun hs => ?_⟩
  · rw [hpart, ← hfree]
    rcases hq.tfState with e | ⟨e, e'⟩
    · rw [e]
    · simp [e, e']
  · rw [hpart] at hs
    rcases hq.handed with e | e
    · rw [e]; exact hhanded hs
    · exact absurd (hs.symm.trans e) nofun
  · rw [hq.pt]
    exact hstep (hpart ▸ hs)

theorem softResetAll_timingInv {s : State} (h : TimingInv s) : TimingInv (softResetAll s) := by
  obtain ⟨hbanks, -, hhanded, -⟩ := h
  have hpart : (softResetAll s).part = s.part := congrArg Bank.part (softResetBanks_frame s.banks).1
  refine ⟨banksKept_matched.softReset _ hbanks, ?_, fun hs => hhanded (hpart ▸ hs), fun _ => rfl⟩
  rw [hpart]
  change sourceState s.part = .free ↔ _
  unfold sourceState
  cases s.part.source <;> simp

theorem reset_timingInv : TimingInv State.reset :=
  ⟨banksKept_matched.powerOn, iff_of_true rfl rfl, fun _ => rfl, fun _ => rfl⟩

theorem exec_keeps_timingInv (c : Instr) (s t : State) (h : TimingInv s) (he : exec c s = .next t) : TimingInv t := by
  by_cases hq : Instr.isQuiet c = true
  · exact (exec_quiet hq he).timingInv (exec_keeps_banksInv c s t h.1 he) h
  cases c <;> first | exact absurd rfl hq | simp only [exec] at he
  case powerOnReset =>
    rw [← next_inj he]
    exact reset_timingInv
  case softReset =>
    unfold execSoftReset at he
    split at he <;> cases he
    exacts [softResetAll_timingInv h, h]
  case tickEnd =>
    unfold execTickEnd at he
    split at he <;> cases he
    · obtain ⟨hbanks, hrest⟩ := h
      refine ⟨banksKept_matched.ageCopy s hbanks, ?_⟩
      unfold State.part at *
      simpa using hrest
    · exact h
  case boundary =>
    unfold execBoundary at he
    split at he <;> cases he
    next hc =>
      have h' : TimingInv (ageCopy s) := by
        obtain ⟨hbanks, hrest⟩ := h
        refine ⟨banksKept_matched.ageCopy s hbanks, ?_⟩
        unfold State.part at *
        simpa using hrest
      exact takeBoundary_timingInv h' (fun _ => by simpa using ((tickMayEnd_iff s).mp hc.1).2.1)
    · exact h
  case syncTaken closes sch =>
    rw [← next_inj he]
    refine carryStep_timingInv ?_
    rcases takeSyncFirst_cases closes s with ⟨-, e⟩ | ⟨-, -, e⟩ <;> rw [e]
    exacts [takeSync_timingInv h, h]

/-- Settles O8. -/
theorem stepsKeepTheTimingState : Obligations.StepsKeepTheTimingState :=
  step_keeps TimingInv (fun _ _ h => h) exec_keeps_timingInv

end Sys2Proof.Machine
end

section
/-!
The ports, the pool and the response slots under the operations that reach them: one equation per operation (R52, R84, R88,
R94, R100 to R104, R145, R153).
-/

namespace Sys2Proof.Machine

/-! ### One port -/

theorem modPort_ports (s : State) (p p' : Port) (f : PortState → PortState) :
    (s.modPort p f).ports[p'] = if p' = p then f s.ports[p'] else s.ports[p'] := by
  split
  next h => subst h; exact modPort_ports_self _ _ _
  next h => exact modPort_ports_ne _ _ h

/-- The transmitter of a port after the arbiter's choice, by the cells of its entries (R100). -/
def arbitrated (controlOf : ControlEntry → Cell) (cellOf : BufId → Cell) (q : PortState) : Transmitter :=
  if q.tx = .idle ∧ q.link = .up then
    match q.control, q.data with
    | e :: _, _ => .sending .control (controlOf e)
    | [], b :: _ => .sending .data (cellOf b)
    | [], [] => .idle
  else q.tx

theorem PortState.with_tx {q : PortState} {t : Transmitter} (h : q.tx = t) : { q with tx := t } = q := by
  subst h
  rfl

theorem arbitrate_ports (p p' : Port) (s : State) : (arbitrate p s).ports[p'] = if p' = p then
    { s.ports[p'] with tx := arbitrated (controlCell s) (fun b => s.pool[b].cell) s.ports[p'] } else s.ports[p'] := by
  split
  next h =>
    subst h
    unfold arbitrate arbitrated
    split
    next hidle =>
      rcases hc : s.ports[p'].control with _ | ⟨e, l⟩ <;> rcases hd : s.ports[p'].data with _ | ⟨b, m⟩ <;>
        simp only [modPort_ports_self]
      exact (PortState.with_tx hidle.1).symm
    · rfl
  next h => exact arbitrate_ports_ne _ h

theorem arbitrated_busy {f : ControlEntry → Cell} {g : BufId → Cell} {q : PortState} (h : q.tx ≠ .idle) :
    arbitrated f g q = q.tx := if_neg (fun h' => h h'.1)

theorem arbitrated_not_up {f : ControlEntry → Cell} {g : BufId → Cell} {q : PortState} (h : q.link ≠ .up) :
    arbitrated f g q = q.tx := if_neg (fun h' => h h'.2)

theorem arbitrated_control {f : ControlEntry → Cell} {g : BufId → Cell} {q : PortState} (hidle : q.tx = .idle)
    (hup : q.link = .up) {e : ControlEntry} {l : List ControlEntry} (hc : q.control = e :: l) :
    arbitrated f g q = .sending .control (f e) := by
  rw [arbitrated, if_pos ⟨hidle, hup⟩, hc]

theorem arbitrated_data {f : ControlEntry → Cell} {g : BufId → Cell} {q : PortState} (hidle : q.tx = .idle)
    (hup : q.link = .up) (hc : q.control = []) {b : BufId} {l : List BufId} (hd : q.data = b :: l) :
    arbitrated f g q = .sending .data (g b) := by
  rw [arbitrated, if_pos ⟨hidle, hup⟩, hc, hd]

theorem arbitrated_nothing {f : ControlEntry → Cell} {g : BufId → Cell} {q : PortState} (hidle : q.tx = .idle)
    (hc : q.control = []) (hd : q.data = []) : arbitrated f g q = .idle := by
  unfold arbitrated
  split
  · rw [hc, hd]
  · exact hidle

/-- What a transmitter sends after the arbiter's choice is the head of a queue, or what it sent before. -/
theorem arbitrated_sending {f : ControlEntry → Cell} {g : BufId → Cell} {q : PortState} {lane : Lane} {c : Cell}
    (h : arbitrated f g q = .sending lane c) :
    q.tx = .sending lane c ∨ (lane = .control ∧ q.control ≠ []) ∨ (lane = .data ∧ q.data ≠ []) := by
  unfold arbitrated at h
  split at h
  · rcases hc : q.control with _ | ⟨e, l⟩ <;> rcases hd : q.data with _ | ⟨b, m⟩ <;> simp only [hc, hd] at h <;> cases h
    · exact .inr (.inr ⟨rfl, nofun⟩)
    · exact .inr (.inl ⟨rfl, nofun⟩)
    · exact .inr (.inl ⟨rfl, nofun⟩)
  · exact .inl h

theorem controlCell_congr {s t : State} (h : t.me.slots = s.me.slots) : controlCell t = controlCell s := by
  funext e
  cases e <;> simp [controlCell, h]

/-- A port with one more CONTROL entry. -/
def PortState.withControl (controlOf : ControlEntry → Cell) (cellOf : BufId → Cell) (e : ControlEntry) (q : PortState) :
    PortState :=
  { q with
    control := q.control ++ [e], tx := arbitrated controlOf cellOf { q with control := q.control ++ [e] } }

/-- A port with one more DATA entry. -/
def PortState.withData (controlOf : ControlEntry → Cell) (cellOf : BufId → Cell) (b : BufId) (q : PortState) :
    PortState :=
  { q with data := q.data ++ [b], tx := arbitrated controlOf cellOf { q with data := q.data ++ [b] } }

theorem appendControl_ports (p p' : Port) (e : ControlEntry) (s : State) : (appendControl p e s).ports[p'] =
    if p' = p then s.ports[p'].withControl (controlCell s) (fun b => s.pool[b].cell) e else s.ports[p'] := by
  rw [appendControl, arbitrate_ports, modPort_ports]
  rw [controlCell_congr (s := s) rfl]
  split <;> rfl

theorem appendData_ports (b : BufId) (p p' : Port) (s : State) : (appendData b s p).ports[p'] =
    if p' = p then s.ports[p'].withData (controlCell s) (fun b => s.pool[b].cell) b else s.ports[p'] := by
  rw [appendData, arbitrate_ports, modPort_ports]
  rw [controlCell_congr (s := s) rfl]
  split <;> rfl

/-! ### Several ports -/

/-- A fold over different ports, each of whose steps changes its own port by `g`, changes those ports by `g`. -/
theorem foldl_ports (f : State → Port → State) (g : Port → PortState → PortState) (P : State → Prop)
    (hP : ∀ u p, P u → P (f u p))
    (h : ∀ u p, P u → ∀ p' : Port, (f u p).ports[p'] = if p' = p then g p' u.ports[p'] else u.ports[p']) :
    ∀ (l : List Port) (u : State), l.Nodup → P u → ∀ p' : Port,
      (l.foldl f u).ports[p'] = if p' ∈ l then g p' u.ports[p'] else u.ports[p']
  | [], _, _, _, p' => by rw [if_neg List.not_mem_nil]; rfl
  | p :: l, u, hnodup, hu, p' => by
    obtain ⟨hp, hl⟩ := List.nodup_cons.mp hnodup
    rw [List.foldl_cons, foldl_ports f g P hP h l _ hl (hP u p hu) p', h u p hu p']
    by_cases e : p' = p
    · subst e
      rw [if_neg hp, if_pos rfl, if_pos (List.mem_cons_self ..)]
    · simp only [List.mem_cons, e, false_or, if_false]

theorem allPorts_nodup : allPorts.Nodup := by decide

theorem mem_allPorts (p : Port) : p ∈ allPorts := by revert p; decide

theorem standing_nodup (d : Dest) (e : Option Port) (s : State) : (standing d e s).Nodup := allPorts_nodup.filter _

theorem takeSet_nodup (d : Dest) (e : Option Port) (s : State) : (takeSet d e s).Nodup := (standing_nodup d e s).filter _

theorem mem_standing {d : Dest} {e : Option Port} {s : State} {p : Port} :
    p ∈ standing d e s ↔ Standing s d p ∧ e ≠ some p := by
  simp only [standing, List.mem_filter, mem_allPorts, true_and, memberOf, reachable, State.enabled, State.isUp,
    Bool.and_eq_true, beq_iff_eq, bne_iff_ne, Standing]
  tauto

theorem mem_takeSet {d : Dest} {e : Option Port} {s : State} {p : Port} :
    p ∈ takeSet d e s ↔ Standing s d p ∧ e ≠ some p ∧ s.ports[p].data.length < 64 := by
  simp only [takeSet, List.mem_filter, mem_standing, dataFull, Config.dataPlaces, Bool.not_eq_true', decide_eq_false_iff_not,
    not_le, and_assoc, ge_iff_le]

/-- A port that counts a cell it could not take (R84). -/
def PortState.countDrop (q : PortState) : PortState :=
  { q with counters := { q.counters with egressDrop := satAdd q.counters.egressDrop 1 } }

theorem countDrops_ports (d : Dest) (e : Option Port) (s : State) (p : Port) : (countDrops d e s).ports[p] =
    if p ∈ (standing d e s).filter (dataFull s) then s.ports[p].countDrop else s.ports[p] :=
  foldl_ports _ (fun _ q => q.countDrop) (fun _ => True) (fun _ _ _ => trivial)
    (fun u p _ p' => modPort_ports u p p' _) _ s ((standing_nodup d e s).filter _) trivial p

theorem mem_fullSet {d : Dest} {e : Option Port} {s : State} {p : Port} :
    p ∈ (standing d e s).filter (dataFull s) ↔ Standing s d p ∧ e ≠ some p ∧ 64 ≤ s.ports[p].data.length := by
  simp only [List.mem_filter, mem_standing, dataFull, Config.dataPlaces, decide_eq_true_eq, and_assoc, ge_iff_le]

/-- The cells of the pool once buffer `b` holds `c`. -/
def cellsWith (b : BufId) (c : Cell) (s : State) (x : BufId) : Cell := if b = x then c else s.pool[x].cell

theorem storeCell_pool (b x : BufId) (c : Cell) (n : Nat) (s : State) :
    (storeCell b c n s).pool[x] = if b = x then ⟨c, n⟩ else s.pool[x] := vecMod_get _ _ _ _

theorem appendToAll_pool (b x : BufId) (c : Cell) (l : List Port) (s : State) :
    (appendToAll b c l s).pool[x] = if b = x then ⟨c, l.length⟩ else s.pool[x] := by
  simp only [(appendToAll_frame b c l s).2.2.2.2.2.2.2]
  exact vecMod_get _ _ _ _

theorem appendToAll_ports (b : BufId) (c : Cell) {l : List Port} (hl : l.Nodup) (s : State) (p : Port) :
    (appendToAll b c l s).ports[p] =
      if p ∈ l then s.ports[p].withData (controlCell s) (cellsWith b c s) b else s.ports[p] := by
  unfold appendToAll
  refine foldl_ports (appendData b) (fun _ q => q.withData (controlCell s) (cellsWith b c s) b)
    (fun u => u.me = s.me ∧ u.pool = (storeCell b c l.length s).pool) (fun u p hu => by simpa using hu)
    (fun u p ⟨hme, hpool⟩ p' => ?_) l (storeCell b c l.length s) hl ⟨rfl, rfl⟩ p
  rw [appendData_ports, controlCell_congr (congrArg Management.slots hme)]
  have hcells : (fun x : BufId => u.pool[x].cell) = cellsWith b c s := by
    funext x
    simp only [hpool, storeCell_pool, cellsWith]
    split <;> rfl
  rw [hcells]

/-! ### The flush (R94, R103, R104) -/

theorem releaseBuffers_pool (l : List BufId) (s : State) (b : BufId) :
    (l.foldl (fun t b => releaseBuffer b t) s).pool[b] = { s.pool[b] with refs := s.pool[b].refs - l.count b } := by
  induction l generalizing s with
  | nil => rfl
  | cons x l ih =>
    rw [List.foldl_cons, ih]
    have hx : (releaseBuffer x s).pool[b] = if x = b then { s.pool[b] with refs := s.pool[b].refs - 1 } else s.pool[b] :=
      (vecMod_get _ _ _ _).trans (by split <;> rename_i e <;> simp [e])
    rw [hx]
    by_cases e : x = b
    · subst e
      simp only [if_true, List.count_cons_self]
      rw [Nat.sub_sub, Nat.add_comm 1]
    · rw [if_neg e, List.count_cons_of_ne e]

theorem returnEntries_slots (l : List ControlEntry) (s : State) (r : RespId) :
    (l.foldl returnEntry s).me.slots[r] = if .response r ∈ l then none else s.me.slots[r] := by
  induction l generalizing s with
  | nil => rw [if_neg List.not_mem_nil]; rfl
  | cons e l ih =>
    rw [List.foldl_cons, ih]
    cases e with
    | response x =>
      have hx : (returnEntry s (.response x)).me.slots[r] = if x = r then none else s.me.slots[r] := set_get _ _ _ _
      rw [hx]
      by_cases e : x = r
      · subst e; simp
      · simp only [if_neg e, List.mem_cons, ControlEntry.response.injEq, Ne.symm e, false_or]
    | notice c => simp [returnEntry]
    | sync i p => simp [returnEntry]

/-- Everything that a flush does: the port's queues emptied and counted, the entries returned. -/
def PortState.flushed (q : PortState) : PortState :=
  { q with
    control := [], data := [], tx := .idle
    counters := { q.counters with
      egressFlush := satAdd q.counters.egressFlush (q.control.length + q.data.length) } }

/-- The port once its link has left UP (R153). -/
def PortState.dropped (target : Link) (q : PortState) : PortState :=
  { q.flushed with
    link := target, errorRun := 0
    counters := { q.flushed.counters with linkDowns := satAdd q.counters.linkDowns 1 } }

theorem flush_returned (p : Port) (s : State) : ∃ u : State, u.ports = s.ports ∧
    flush p s = u.modPort p PortState.flushed ∧
    (∀ b : BufId, u.pool[b] = { s.pool[b] with refs := s.pool[b].refs - s.ports[p].data.count b }) ∧
    ∀ r : RespId, u.me.slots[r] = if .response r ∈ s.ports[p].control then none else s.me.slots[r] := by
  refine ⟨s.ports[p].control.foldl returnEntry (s.ports[p].data.foldl (fun t b => releaseBuffer b t) s), ?_, rfl,
    fun b => ?_, fun r => ?_⟩
  · exact (foldl_frame State.ports _ (fun t e => by simp) _ _).trans (foldl_frame State.ports _ (fun t b => by simp) _ _)
  · have h := foldl_frame State.pool returnEntry (fun t e => by simp) s.ports[p].control
      (s.ports[p].data.foldl (fun t b => releaseBuffer b t) s)
    simp only [h]
    exact releaseBuffers_pool _ _ _
  · rw [returnEntries_slots]
    have h := foldl_frame (fun t : State => t.me.slots) (fun t b => releaseBuffer b t) (fun t b => by simp)
      s.ports[p].data s
    simp only [h]

theorem dropLink_ports (p p' : Port) (target : Link) (s : State) :
    (dropLink p target s).ports[p'] = if p' = p then s.ports[p'].dropped target else s.ports[p'] := by
  obtain ⟨u, hports, hflush, -, -⟩ := flush_returned p s
  have hmid : ∀ q : Port, (flush p s).ports[q] = if q = p then s.ports[q].flushed else s.ports[q] := by
    intro q
    simp only [hflush, modPort_ports, hports]
  rw [dropLink, modPort_ports, hmid]
  split <;> rfl

theorem dropLink_returned (p : Port) (target : Link) (s : State) : EntriesReturned s.ports[p] s (dropLink p target s) := by
  obtain ⟨u, -, hflush, hpool, hslots⟩ := flush_returned p s
  have hp : (dropLink p target s).pool = u.pool := by simp [dropLink, hflush]
  have hm : (dropLink p target s).me = u.me := by simp [dropLink, hflush]
  refine ⟨fun b => ?_, fun r => ?_⟩
  · simp only [hp, hpool]
    exact ⟨trivial, trivial⟩
  · simp only [hm, hslots]

theorem portDropped_dropped (target : Link) (q : PortState) : PortDropped target q (q.dropped target) :=
  ⟨rfl, rfl, rfl, rfl, rfl, rfl, rfl⟩

/-! ### Departures from UP (R153) -/

theorem tellFollower_same (p : Port) (s : State) :
    (tellFollower p s).ports = s.ports ∧ (tellFollower p s).pool = s.pool ∧
    (tellFollower p s).me.slots = s.me.slots := by simp

theorem leaveUp_ports (p p' : Port) (target : Link) (o : LossOrder) (s : State) :
    (leaveUp p target o s).ports[p'] = if p' = p then s.ports[p'].dropped target else s.ports[p'] := by
  have h : (leaveUp p target o s).ports = (dropLink p target s).ports := by
    cases o <;> simp [leaveUp, queueLink]
  simp only [h, dropLink_ports]

theorem EntriesReturned.congr {q : PortState} {s t t' : State} (h : EntriesReturned q s t) (hpool : t'.pool = t.pool)
    (hslots : t'.me.slots = t.me.slots) : EntriesReturned q s t' := by
  unfold EntriesReturned at *
  simpa only [hpool, hslots] using h

theorem leaveUp_returned (p : Port) (target : Link) (o : LossOrder) (s : State) :
    EntriesReturned s.ports[p] s (leaveUp p target o s) := by
  refine (dropLink_returned p target s).congr ?_ ?_ <;> cases o <;> simp [leaveUp, queueLink]

/-! ### Transmissions (R102, R103) -/

/-- A port whose transmission is over, its entry already taken from its queue: TX_CELLS counted and the next entry
chosen. -/
def PortState.completed (controlOf : ControlEntry → Cell) (cellOf : BufId → Cell) (q : PortState) : PortState :=
  { q with
    tx := arbitrated controlOf cellOf { q with tx := .idle }
    counters := { q.counters with txCells := satAdd q.counters.txCells 1 } }

theorem completeControl_ports {p : Port} {s : State} {e : ControlEntry} {rest : List ControlEntry}
    (h : s.ports[p].control = e :: rest) (p' : Port) : (completeControl p s).ports[p'] = if p' = p then
      { s.ports[p'] with control := rest }.completed (controlCell (returnEntry s e)) (fun b => s.pool[b].cell)
      else s.ports[p'] := by
  unfold completeControl
  simp only [h]
  cases e <;>
    (rw [arbitrate_ports]
     simp only [returnEntry, freeSlot, State.modMe, endTransmission, modPort_ports]
     split <;> rfl)

theorem arbitrate_state (p : Port) (s : State) : arbitrate p s = { s with ports := (arbitrate p s).ports } := by
  unfold arbitrate
  split
  · split <;> rfl
  · rfl

theorem completeControl_state {p : Port} {s : State} {e : ControlEntry} {rest : List ControlEntry}
    (h : s.ports[p].control = e :: rest) :
    completeControl p s = { s with ports := (completeControl p s).ports, me := (returnEntry s e).me } := by
  unfold completeControl
  simp only [h]
  generalize hu : returnEntry (endTransmission p (s.modPort p (fun q => { q with control := rest }))) e = u
  have hsame : u = { s with ports := u.ports, me := (returnEntry s e).me } := by subst hu; cases e <;> rfl
  calc arbitrate p u = { u with ports := (arbitrate p u).ports } := arbitrate_state p u
    _ = _ := by rw [hsame]

theorem completeData_ports {p : Port} {s : State} {b : BufId} {rest : List BufId}
    (h : s.ports[p].data = b :: rest) (p' : Port) : (completeData p s).ports[p'] = if p' = p then
      { s.ports[p'] with data := rest }.completed (controlCell s) (fun b => s.pool[b].cell)
      else s.ports[p'] := by
  unfold completeData
  simp only [h]
  rw [arbitrate_ports]
  have hcells : ∀ (u : State) (x : BufId), (releaseBuffer b u).pool[x].cell = u.pool[x].cell := by
    intro u x
    exact (congrArg Buffer.cell (vecMod_get _ _ _ _)).trans (by split <;> rename_i e <;> simp [e])
  simp only [hcells, endTransmission]
  have hp : ∀ u : State, (releaseBuffer b u).ports = u.ports := fun _ => rfl
  simp only [hp, modPort_ports]
  split <;> rfl

theorem completeData_state {p : Port} {s : State} {b : BufId} {rest : List BufId}
    (h : s.ports[p].data = b :: rest) :
    completeData p s = { s with ports := (completeData p s).ports, pool := (releaseBuffer b s).pool } := by
  unfold completeData
  simp only [h]
  generalize hu : releaseBuffer b (endTransmission p (s.modPort p (fun q => { q with data := rest }))) = u
  have hsame : u = { s with ports := u.ports, pool := (releaseBuffer b s).pool } := by subst hu; rfl
  calc arbitrate p u = { u with ports := (arbitrate p u).ports } := arbitrate_state p u
    _ = _ := by rw [hsame]

end Sys2Proof.Machine
end

section
/-!
The counts of the buffers and the response slots (R92, R94, R98, R103) under every operation that reaches a queue.
-/

namespace Sys2Proof.Machine

/-! ### Sums over the ports -/

/-- Two functions that differ at one port alone have sums that differ by it. -/
theorem sum_allPorts_change {f g : Port → Nat} (p : Port) (h : ∀ p', p' ≠ p → g p' = f p') :
    (allPorts.map g).sum + f p = (allPorts.map f).sum + g p := by
  have hrest : (allPorts.erase p).map g = (allPorts.erase p).map f :=
    List.map_congr_left (fun x hx => h x (allPorts_nodup.mem_erase_iff.mp hx).1)
  rw [← List.sum_map_erase f (mem_allPorts p), ← List.sum_map_erase g (mem_allPorts p), hrest]
  omega

theorem le_sum_allPorts (f : Port → Nat) (p : Port) : f p ≤ (allPorts.map f).sum := by
  rw [← List.sum_map_erase f (mem_allPorts p)]
  exact Nat.le_add_right ..

theorem sum_allPorts_add (f g : Port → Nat) :
    (allPorts.map (fun p => f p + g p)).sum = (allPorts.map f).sum + (allPorts.map g).sum := List.sum_map_add

theorem sum_allPorts_mem {l : List Port} (h : l.Nodup) : (allPorts.map (fun p => if p ∈ l then 1 else 0)).sum = l.length := by
  have hperm : (allPorts.filter (fun p => decide (p ∈ l))).Perm l :=
    (List.perm_ext_iff_of_nodup (allPorts_nodup.filter _) h).mpr (fun p => by simp [mem_allPorts])
  rw [← hperm.length_eq, ← List.countP_eq_length_filter]
  generalize allPorts = ps
  induction ps with
  | nil => rfl
  | cons p ps ih =>
    rw [List.map_cons, List.sum_cons, ih, List.countP_cons]
    simp only [decide_eq_true_eq]
    omega

/-! ### One port -/

/-- The queues of one port in their bounds (R96). -/
def PortState.bounded (q : PortState) : Prop :=
  q.control.length ≤ 4 ∧ q.data.length ≤ 64 ∧ q.data.Nodup ∧
  (∀ c, q.tx = .sending .control c → q.control ≠ []) ∧ ∀ c, q.tx = .sending .data c → q.data ≠ []

/-- 1 where a response is held. -/
def heldCount (o : Option Response) : Nat := if o = none then 0 else 1

theorem queuesInv_iff (s : State) : QueuesInv s ↔ (∀ b : BufId, s.pool[b].refs = dataEntries s b) ∧
    (∀ r : RespId, responseEntries s r = heldCount s.me.slots[r]) ∧ ∀ p : Port, s.ports[p].bounded := Iff.rfl

theorem PortState.bounded.arbitrated {q : PortState} (h : q.bounded) (f : ControlEntry → Cell) (g : BufId → Cell) :
    PortState.bounded { q with tx := arbitrated f g q } := by
  obtain ⟨hc, hd, hn, hsc, hsd⟩ := h
  refine ⟨hc, hd, hn, fun c e => ?_, fun c e => ?_⟩
  · rcases arbitrated_sending e with h | h | h
    exacts [hsc c h, h.2, absurd h.1 nofun]
  · rcases arbitrated_sending e with h | h | h
    exacts [hsd c h, absurd h.1 nofun, h.2]

theorem PortState.bounded.withControl {q : PortState} (h : q.bounded) (hroom : q.control.length < 4)
    (f : ControlEntry → Cell) (g : BufId → Cell) (e : ControlEntry) : (q.withControl f g e).bounded := by
  refine PortState.bounded.arbitrated (q := { q with control := q.control ++ [e] }) ?_ f g
  obtain ⟨-, hd, hn, -, hsd⟩ := h
  exact ⟨by simpa using hroom, hd, hn, fun _ _ => by simp, hsd⟩

theorem PortState.bounded.withData {q : PortState} (h : q.bounded) (hroom : q.data.length < 64) {b : BufId}
    (hb : b ∉ q.data) (f : ControlEntry → Cell) (g : BufId → Cell) : (q.withData f g b).bounded := by
  refine PortState.bounded.arbitrated (q := { q with data := q.data ++ [b] }) ?_ f g
  obtain ⟨hc, -, hn, hsc, -⟩ := h
  refine ⟨hc, by simpa using hroom, ?_, hsc, fun _ _ => by simp⟩
  exact List.nodup_append.mpr ⟨hn, List.nodup_singleton b, fun x hx y hy => by
    rw [List.mem_singleton.mp hy]
    exact fun e => hb (e ▸ hx)⟩

theorem PortState.bounded.completed {q : PortState} (hc : q.control.length ≤ 4) (hd : q.data.length ≤ 64)
    (hn : q.data.Nodup) (f : ControlEntry → Cell) (g : BufId → Cell) : (q.completed f g).bounded :=
  PortState.bounded.arbitrated (q := { q with tx := .idle }) ⟨hc, hd, hn, nofun, nofun⟩ f g

/-! ### The counts -/

/-- One port changes: the counts follow its queues. -/
theorem QueuesInv.change_port {s t : State} (p : Port) (hs : QueuesInv s)
    (hother : ∀ p' : Port, p' ≠ p → t.ports[p'] = s.ports[p']) (hbounded : t.ports[p].bounded)
    (hrefs : ∀ b : BufId, t.pool[b].refs + s.ports[p].data.count b = s.pool[b].refs + t.ports[p].data.count b)
    (hslots : ∀ r : RespId, heldCount t.me.slots[r] + s.ports[p].control.count (.response r) =
      heldCount s.me.slots[r] + t.ports[p].control.count (.response r)) : QueuesInv t := by
  obtain ⟨hr, hh, hb⟩ := (queuesInv_iff s).mp hs
  refine (queuesInv_iff t).mpr ⟨fun b => ?_, fun r => ?_, fun p' => ?_⟩
  · have h := sum_allPorts_change (f := fun p => s.ports[p].data.count b) (g := fun p => t.ports[p].data.count b) p
      (fun p' h => by simp only [hother p' h])
    have h1 := hrefs b
    rw [hr b] at h1
    unfold dataEntries at *
    omega
  · have h := sum_allPorts_change (f := fun p => s.ports[p].control.count (.response r))
      (g := fun p => t.ports[p].control.count (.response r)) p (fun p' h => by simp only [hother p' h])
    have h1 := hslots r
    rw [← hh r] at h1
    unfold responseEntries at *
    omega
  · by_cases e : p' = p
    · subst e; exact hbounded
    · rw [hother p' e]; exact hb p'

/-- Queues and transmitters stay, and so do the counts. -/
theorem QueuesInv.congr {s t : State} (hs : QueuesInv s)
    (hports : ∀ p : Port, t.ports[p].control = s.ports[p].control ∧ t.ports[p].data = s.ports[p].data ∧
      t.ports[p].tx = s.ports[p].tx)
    (hpool : t.pool = s.pool) (hslots : t.me.slots = s.me.slots) : QueuesInv t := by
  unfold QueuesInv dataEntries responseEntries at *
  simp only [(hports _).1, (hports _).2.1, (hports _).2.2, hpool, hslots]
  exact hs

theorem count_le_refs {s : State} (h : QueuesInv s) (b : BufId) (p : Port) : s.ports[p].data.count b ≤ s.pool[b].refs := by
  rw [h.1 b]
  exact le_sum_allPorts (fun p => s.ports[p].data.count b) p

theorem not_mem_data_of_free {s : State} (h : QueuesInv s) {b : BufId} (hb : s.pool[b].refs = 0) (p : Port) :
    b ∉ s.ports[p].data := by
  have := count_le_refs h b p
  rw [hb] at this
  exact List.count_eq_zero.mp (Nat.le_zero.mp this)

/-- A held response has at most one entry on a port, and a free slot none. -/
theorem count_le_heldCount {s : State} (h : QueuesInv s) (r : RespId) (p : Port) :
    s.ports[p].control.count (.response r) ≤ heldCount s.me.slots[r] := by
  rw [← ((queuesInv_iff s).mp h).2.1 r]
  exact le_sum_allPorts (fun p => s.ports[p].control.count (.response r)) p

theorem heldCount_le_one (o : Option Response) : heldCount o ≤ 1 := by unfold heldCount; split <;> omega

/-! ### The operations -/

theorem controlRoom_iff (s : State) (p : Port) : controlRoom s p = true ↔ s.ports[p].control.length < 4 :=
  decide_eq_true_iff

theorem reachable_iff (s : State) (p : Port) : reachable s p = true ↔ s.enabled p = true ∧ s.ports[p].link = .up := by
  simp only [reachable, State.isUp, Bool.and_eq_true, beq_iff_eq]

theorem appendControl_queuesInv {s : State} {p : Port} {e : ControlEntry} (h : QueuesInv s) (he : ∀ r, e ≠ .response r)
    (hroom : s.ports[p].control.length < 4) : QueuesInv (appendControl p e s) := by
  have hp := appendControl_ports p p e s
  rw [if_pos rfl] at hp
  have hpool : (appendControl p e s).pool = s.pool := by simp
  have hme : (appendControl p e s).me = s.me := by simp
  refine h.change_port p (fun p' h => appendControl_ports_ne _ _ h) (hp ▸ PortState.bounded.withControl (h.2.2 p) hroom _ _ e)
    (fun b => ?_) (fun r => ?_)
  · simp only [hp, hpool, PortState.withControl]
  · simp only [hp, hme, PortState.withControl, List.count_append, List.count_singleton]
    rw [if_neg (by simpa using he r), Nat.add_zero]

theorem respond_queuesInv {s : State} {r : RespId} (q : Request) (code : Byte) (st : Status) (data : List Byte)
    (h : QueuesInv s) (hfree : s.me.slots[r] = none) : QueuesInv (respond r q code st data s) := by
  unfold respond
  split
  next hroom =>
    rw [Bool.and_eq_true, controlRoom_iff] at hroom
    generalize responseTo q code st data s = x
    have hp := appendControl_ports q.port q.port (.response r) (fillSlot r x s)
    rw [if_pos rfl] at hp
    have hpool : (appendControl q.port (.response r) (fillSlot r x s)).pool = s.pool := by simp [fillSlot]
    have hme : (appendControl q.port (.response r) (fillSlot r x s)).me.slots = s.me.slots.set r.val (some x) r.isLt := by
      simp [fillSlot]
    refine h.change_port q.port (fun p' h => appendControl_ports_ne _ _ h)
      (hp ▸ PortState.bounded.withControl (h.2.2 q.port) hroom.2 _ _ _) (fun b => ?_) (fun x => ?_)
    · rw [hp, hpool]
      rfl
    · simp only [hp, hme, PortState.withControl, List.count_append, List.count_singleton]
      rw [set_get]
      by_cases e : r = x
      · subst e
        simp [heldCount, hfree, fillSlot, Nat.add_comm]
      · simp [e, fillSlot]
  · refine h.congr (fun p => ?_) rfl rfl
    rw [State.countPort, modPort_ports]
    split <;> exact ⟨rfl, rfl, rfl⟩

theorem dropLink_queuesInv {s : State} (p : Port) (target : Link) (h : QueuesInv s) :
    QueuesInv (dropLink p target s) := by
  have hp := dropLink_ports p p target s
  rw [if_pos rfl] at hp
  obtain ⟨hpool, hslots⟩ := dropLink_returned p target s
  refine h.change_port p (fun p' hn => by rw [dropLink_ports, if_neg hn])
    (hp ▸ ⟨Nat.zero_le _, Nat.zero_le _, List.nodup_nil, nofun, nofun⟩) (fun b => ?_) (fun r => ?_)
  · have := count_le_refs h b p
    rw [hp, (hpool b).2]
    simp only [PortState.dropped, PortState.flushed, List.count_nil]
    omega
  · have hle := count_le_heldCount h r p
    have hone := heldCount_le_one s.me.slots[r]
    rw [hp, hslots r]
    simp only [PortState.dropped, PortState.flushed, List.count_nil]
    split
    next hm =>
      have := List.count_pos_iff.mpr hm
      simp only [heldCount, if_true] at *
      omega
    next hm => rw [List.count_eq_zero.mpr hm]

theorem leaveUp_queuesInv {s : State} (p : Port) (target : Link) (o : LossOrder) (h : QueuesInv s) :
    QueuesInv (leaveUp p target o s) := by
  refine (dropLink_queuesInv p target h).congr (fun p' => ?_) ?_ ?_
  · rw [leaveUp_ports, dropLink_ports]
    exact ⟨rfl, rfl, rfl⟩
  all_goals cases o <;> simp [leaveUp, queueLink]

theorem completeControl_queuesInv {s : State} (p : Port) (h : QueuesInv s) : QueuesInv (completeControl p s) := by
  rcases hc : s.ports[p].control with _ | ⟨e, rest⟩
  · simp only [completeControl, hc]
    exact h
  obtain ⟨hlc, hld, hn, -⟩ := h.2.2 p
  have hp := completeControl_ports hc p
  rw [if_pos rfl] at hp
  have hstate := completeControl_state hc
  rw [hc] at hlc
  refine h.change_port p (fun p' hn => by rw [completeControl_ports hc, if_neg hn])
    (hp ▸ PortState.bounded.completed (q := { s.ports[p] with control := rest }) (Nat.le_of_succ_le hlc) hld hn _ _) (fun b => ?_)
    (fun r => ?_)
  · rw [hp, hstate]
    rfl
  · rw [hp, hstate, hc]
    simp only [PortState.completed]
    cases e with
    | response x =>
      have hx : (returnEntry s (.response x)).me.slots[r] = if x = r then none else s.me.slots[r] := set_get _ _ _ _
      rw [hx]
      have hle := count_le_heldCount h r p
      have hone := heldCount_le_one s.me.slots[r]
      rw [hc] at hle
      by_cases e : x = r
      · subst e
        simp only [List.count_cons_self, if_true] at *
        simp only [heldCount, if_true] at *
        omega
      · rw [if_neg e, List.count_cons_of_ne (by simpa using e)]
    | notice c => rw [List.count_cons_of_ne (by simp)]; rfl
    | sync i n => rw [List.count_cons_of_ne (by simp)]; rfl

theorem completeData_queuesInv {s : State} (p : Port) (h : QueuesInv s) : QueuesInv (completeData p s) := by
  rcases hd : s.ports[p].data with _ | ⟨x, rest⟩
  · simp only [completeData, hd]
    exact h
  obtain ⟨hlc, hld, hn, -⟩ := h.2.2 p
  have hp := completeData_ports hd p
  rw [if_pos rfl] at hp
  have hstate := completeData_state hd
  rw [hd] at hld hn
  refine h.change_port p (fun p' hn => by rw [completeData_ports hd, if_neg hn])
    (hp ▸ PortState.bounded.completed (q := { s.ports[p] with data := rest }) hlc (Nat.le_of_succ_le hld) (List.nodup_cons.mp hn).2 _ _) (fun b => ?_) (fun r => ?_)
  · have hle := count_le_refs h b p
    have hpool : (completeData p s).pool[b] = if x = b then { s.pool[b] with refs := s.pool[b].refs - 1 } else s.pool[b] := by
      rw [hstate]
      exact (vecMod_get _ _ _ _).trans (by split <;> rename_i e <;> simp [e])
    rw [hp, hpool, hd]
    rw [hd] at hle
    simp only [PortState.completed]
    by_cases e : x = b
    · subst e
      simp only [List.count_cons_self, if_true] at *
      omega
    · rw [if_neg e, List.count_cons_of_ne e]
  · rw [hp, hstate]
    rfl

/-- The copies of a cell stored in a free buffer, one on each port of the list. -/
theorem appendToAll_queuesInv {s : State} {b : BufId} (c : Cell) {l : List Port} (h : QueuesInv s) (hl : l.Nodup)
    (hfree : s.pool[b].refs = 0) (hroom : ∀ p ∈ l, s.ports[p].data.length < 64) : QueuesInv (appendToAll b c l s) := by
  have hme : (appendToAll b c l s).me = s.me := by simp
  have hcontrol : ∀ p : Port, (appendToAll b c l s).ports[p].control = s.ports[p].control := by
    intro p
    rw [appendToAll_ports b c hl]
    split <;> rfl
  have hdata : ∀ p : Port, (appendToAll b c l s).ports[p].data = s.ports[p].data ++ if p ∈ l then [b] else [] := by
    intro p
    rw [appendToAll_ports b c hl]
    split
    · rfl
    · rw [List.append_nil]
  have hentries : ∀ x : BufId, dataEntries (appendToAll b c l s) x = dataEntries s x + if b = x then l.length else 0 := by
    intro x
    unfold dataEntries
    by_cases e : b = x
    · subst e
      rw [if_pos rfl, ← sum_allPorts_mem hl, ← sum_allPorts_add]
      congr 1
      refine List.map_congr_left (fun p _ => ?_)
      rw [hdata, List.count_append]
      split <;> simp
    · rw [if_neg e, Nat.add_zero]
      congr 1
      refine List.map_congr_left (fun p _ => ?_)
      rw [hdata, List.count_append]
      split <;> simp [e]
  refine (queuesInv_iff _).mpr ⟨fun x => ?_, fun r => ?_, fun p => ?_⟩
  · rw [hentries, ← h.1 x, appendToAll_pool]
    split
    next e => subst e; rw [hfree, Nat.zero_add]
    · rfl
  · unfold responseEntries
    simp only [hcontrol, hme]
    exact ((queuesInv_iff s).mp h).2.1 r
  · rw [appendToAll_ports b c hl]
    split
    next hp => exact PortState.bounded.withData (h.2.2 p) (hroom p hp) (not_mem_data_of_free h hfree p) _ _
    · exact h.2.2 p

end Sys2Proof.Machine
end

section
/-!
The links and the queues under every command (O10, O11): each operation keeps every port's link, reaches the queues of UP
ports alone and keeps the counts of the entries, but for the departures from UP and for what a swap does to port_enable.
-/

namespace Sys2Proof.Machine

/-! ### One port -/

/-- `LinkInv` of one port, which is enabled or not. -/
def PortState.linked (enabled : Bool) (q : PortState) : Prop :=
  (q.link = .down ↔ ¬ (enabled = true ∧ q.signal = true)) ∧
  (q.link ≠ .up → q.control = [] ∧ q.data = [] ∧ q.tx = .idle)

theorem linkInv_iff (s : State) : LinkInv s ↔ ∀ p : Port, s.ports[p].linked (s.enabled p) := Iff.rfl

/-- The link and the signal stay, and so do the queues and the transmitter of a port that is not UP. -/
structure SameLink (q q' : PortState) : Prop where
  link : q'.link = q.link
  signal : q'.signal = q.signal
  queues : q.link ≠ .up → q'.control = q.control ∧ q'.data = q.data ∧ q'.tx = q.tx

theorem SameLink.refl (q : PortState) : SameLink q q := ⟨rfl, rfl, fun _ => ⟨rfl, rfl, rfl⟩⟩

theorem SameLink.trans {q q' q'' : PortState} (h : SameLink q q') (h' : SameLink q' q'') : SameLink q q'' := by
  refine ⟨h'.link.trans h.link, h'.signal.trans h.signal, fun hn => ?_⟩
  obtain ⟨c, d, x⟩ := h.queues hn
  obtain ⟨c', d', x'⟩ := h'.queues (h.link ▸ hn)
  exact ⟨c'.trans c, d'.trans d, x'.trans x⟩

theorem SameLink.linked {q q' : PortState} (h : SameLink q q') {e : Bool} (hq : q.linked e) : q'.linked e := by
  refine ⟨by rw [h.link, h.signal]; exact hq.1, fun hn => ?_⟩
  rw [h.link] at hn
  obtain ⟨c, d, x⟩ := h.queues hn
  rw [c, d, x]
  exact hq.2 hn

theorem SameLink.of_up {q q' : PortState} (hlink : q'.link = q.link) (hsignal : q'.signal = q.signal) (hup : q.link = .up) :
    SameLink q q' := ⟨hlink, hsignal, fun hn => absurd hup hn⟩

/-- A departure from UP leaves the port TRAINING, or DOWN where it is disabled or sees no signal. -/
theorem PortState.linked.dropped {q : PortState} {e : Bool} {target : Link}
    (h : target = .down ↔ ¬ (e = true ∧ q.signal = true)) : (q.dropped target).linked e :=
  ⟨h, fun _ => ⟨rfl, rfl, rfl⟩⟩

/-! ### The operations -/

/-- Every port is left with `SameLink`, and the counts stay those of the entries. -/
structure PortsKept (s t : State) : Prop where
  port : ∀ p : Port, SameLink s.ports[p] t.ports[p]
  queues : QueuesInv s → QueuesInv t

theorem PortsKept.refl (s : State) : PortsKept s s := ⟨fun _ => .refl _, id⟩

theorem PortsKept.of_same {s t : State} (hports : t.ports = s.ports) (hpool : t.pool = s.pool)
    (hslots : t.me.slots = s.me.slots) : PortsKept s t := by
  refine ⟨fun p => ?_, fun h => h.congr (fun p => ?_) hpool hslots⟩
  · simp only [hports]
    exact .refl _
  · simp only [hports]
    exact ⟨trivial, trivial, trivial⟩

theorem PortsKept.trans {s t u : State} (h : PortsKept s t) (h' : PortsKept t u) : PortsKept s u :=
  ⟨fun p => (h.port p).trans (h'.port p), fun hs => h'.queues (h.queues hs)⟩

theorem PortsKept.after {s t u : State} (h' : PortsKept t u) (hports : t.ports = s.ports) (hpool : t.pool = s.pool)
    (hslots : t.me.slots = s.me.slots) : PortsKept s u :=
  (PortsKept.of_same hports hpool hslots).trans h'

theorem linkInv_of_sameLink {s t : State} (h : ∀ p : Port, SameLink s.ports[p] t.ports[p]) (hpart : t.part = s.part)
    (hs : LinkInv s) : LinkInv t := by
  intro p
  have he : t.enabled p = s.enabled p := by rw [State.enabled, hpart, State.enabled]
  rw [he]
  exact (h p).linked (hs p)

theorem PortsKept.linkInv {s t : State} (h : PortsKept s t) : t.part = s.part → LinkInv s → LinkInv t :=
  linkInv_of_sameLink h.port

/-- A port's queues and its transmitter stay. -/
def SameQueues (q q' : PortState) : Prop := q'.control = q.control ∧ q'.data = q.data ∧ q'.tx = q.tx

/-- Counters and the error run of a port change, and nothing else. -/
structure SameStanding (q q' : PortState) : Prop where
  link : q'.link = q.link
  signal : q'.signal = q.signal
  control : q'.control = q.control
  data : q'.data = q.data
  tx : q'.tx = q.tx

theorem SameStanding.refl (q : PortState) : SameStanding q q := ⟨rfl, rfl, rfl, rfl, rfl⟩

theorem PortsKept.of_standing {s t : State} (h : ∀ p : Port, SameStanding s.ports[p] t.ports[p]) (hpool : t.pool = s.pool)
    (hslots : t.me.slots = s.me.slots) : PortsKept s t :=
  ⟨fun p => ⟨(h p).link, (h p).signal, fun _ => ⟨(h p).control, (h p).data, (h p).tx⟩⟩,
    fun hs => hs.congr (fun p => ⟨(h p).control, (h p).data, (h p).tx⟩) hpool hslots⟩

theorem portsKept_modPort {s : State} {p : Port} {f : PortState → PortState}
    (h : SameStanding s.ports[p] (f s.ports[p])) : PortsKept s (s.modPort p f) := by
  refine .of_standing (fun p' => ?_) rfl rfl
  rw [modPort_ports]
  split
  next e => subst e; exact h
  · exact .refl _

theorem portsKept_countPort (s : State) (p : Port) (f : PortCounters → PortCounters) : PortsKept s (s.countPort p f) :=
  portsKept_modPort ⟨rfl, rfl, rfl, rfl, rfl⟩

theorem portsKept_appendControl {s : State} {p : Port} {e : ControlEntry} (he : ∀ r, e ≠ .response r)
    (hup : s.ports[p].link = .up) (hroom : s.ports[p].control.length < 4) : PortsKept s (appendControl p e s) := by
  refine ⟨fun p' => ?_, fun h => appendControl_queuesInv h he hroom⟩
  rw [appendControl_ports]
  split
  next h => subst h; exact .of_up rfl rfl hup
  · exact .refl _

theorem countDrops_standing (d : Dest) (e : Option Port) (s : State) (p : Port) :
    SameStanding s.ports[p] (countDrops d e s).ports[p] := by
  rw [countDrops_ports]
  split
  · exact ⟨rfl, rfl, rfl, rfl, rfl⟩
  · exact .refl _

theorem portsKept_countDrops (d : Dest) (e : Option Port) (s : State) : PortsKept s (countDrops d e s) :=
  .of_standing (countDrops_standing d e s) (by simp) (by simp)

theorem portsKept_appendToAll {b : BufId} {c : Cell} {l : List Port} {s : State} (hl : l.Nodup)
    (hfree : s.pool[b].refs = 0) (htake : ∀ p ∈ l, s.ports[p].link = .up ∧ s.ports[p].data.length < 64) :
    PortsKept s (appendToAll b c l s) := by
  refine ⟨fun p => ?_, fun h => appendToAll_queuesInv c h hl hfree (fun p hp => (htake p hp).2)⟩
  rw [appendToAll_ports b c hl]
  split
  next h => exact .of_up rfl rfl (htake p h).1
  · exact .refl _

/-- The cell's copies go to UP ports with room alone. -/
theorem portsKept_copies {d : Dest} {e : Option Port} {b : BufId} {c : Cell} {s : State} {q : Port} {qs : List Port}
    (hbuffer : takeBuffer s = some b) (htake : takeSet d e s = q :: qs) :
    PortsKept s (appendToAll b c (q :: qs) (countDrops d e s)) := by
  have hl : (q :: qs).Nodup := htake ▸ takeSet_nodup d e s
  have hfree : (countDrops d e s).pool[b].refs = 0 := by simpa using takeBuffer_free hbuffer
  refine (portsKept_countDrops d e s).trans (portsKept_appendToAll hl hfree (fun p hp => ?_))
  obtain ⟨⟨-, -, hup⟩, -, hroom⟩ := mem_takeSet.mp (htake ▸ hp)
  have hsame := countDrops_standing d e s p
  exact ⟨hsame.link.trans hup, hsame.data ▸ hroom⟩

theorem portsKept_emit (g : GroupId) (v : Samples) (short : Bool) (s : State) : PortsKept s (emit g v short s) := by
  unfold emit
  split
  · exact .of_same rfl rfl (by simp [State.countGroup])
  · dsimp only
    split
    · exact (portsKept_countDrops _ _ s).trans (.of_same rfl rfl rfl)
    next htake => exact (portsKept_copies ‹_› htake).trans (.of_same rfl rfl rfl)

theorem portsKept_closeGroup (forced : Bool) (g : GroupId) (s : State) : PortsKept s (closeGroup forced g s) := by
  by_cases ho : s.groups[g].state = .opened
  · rw [closeGroup_open ho]
    have hm : PortsKept s (if forced then markCut g s else s) := by
      cases forced <;> exact .of_same rfl rfl rfl
    refine PortsKept.trans (t := if arrivals s.groups[g] ≥ (s.groupRec g).quorum then _ else _) ?_ (.of_same rfl rfl rfl)
    split
    · refine hm.trans ?_
      generalize (if forced then markCut g s else s) = u
      unfold formedClose
      dsimp only
      split
      · exact portsKept_emit ..
      · exact (portsKept_emit ..).after rfl rfl rfl
    · refine hm.trans ?_
      generalize (if forced then markCut g s else s) = u
      unfold shortClose
      split
      · exact .of_same (by simp [State.countGroup]) (by simp [State.countGroup]) (by simp [State.countGroup])
      · exact (portsKept_emit ..).after (by simp) (by simp) (by simp)
  · rw [closeGroup_shut ho]
    exact .refl s

theorem portsKept_forceCloses (l : List GroupId) (s : State) : PortsKept s (forceCloses l s) :=
  foldl_keeps (PortsKept s) _ (fun t g h => h.trans (portsKept_closeGroup true g t)) l s (.refl s)

theorem portsKept_forwardCell (i : StreamId) (d : Dest) (r : StreamRec) (p : Port) (c : Cell) (s : State) :
    PortsKept s (forwardCell i d r p c s) := by
  unfold forwardCell
  dsimp only
  split
  · exact (portsKept_countDrops _ _ s).trans (.of_same rfl rfl rfl)
  next htake =>
    split
    · exact (portsKept_countDrops _ _ s).trans (.of_same rfl rfl (by simp [State.countStream]))
    next hbuffer => exact portsKept_copies hbuffer htake

theorem contributeCell_ports (i : StreamId) (f : Feed) (c : Cell) (s : State) :
    (contributeCell i f c s).ports = s.ports ∧ (contributeCell i f c s).pool = s.pool ∧
    (contributeCell i f c s).me.slots = s.me.slots := by simp

theorem portsKept_acceptCell (i : StreamId) (r : StreamRec) (p : Port) (c : Cell) (s : State) :
    PortsKept s (acceptCell i r p c s) := by
  unfold acceptCell handOn
  split
  · exact .of_same rfl rfl rfl
  · exact (portsKept_forwardCell ..).after rfl rfl rfl
  · exact .of_same (by simp [State.countStream]) (by simp [State.countStream]) (by simp [State.countStream])
  · exact PortsKept.trans (t := forwardCell i _ r p c (s.countStream i _)) ((portsKept_forwardCell ..).after rfl rfl rfl)
        (.of_same (contributeCell_ports ..).1 (contributeCell_ports ..).2.1 (contributeCell_ports ..).2.2)

theorem portsKept_classify (p : Port) (c : Cell) (s : State) : PortsKept s (classify p c s) := by
  unfold classify
  split
  · exact portsKept_countPort ..
  · split
    · exact .of_same rfl rfl rfl
    · split
      · unfold takeInRequest
        split
        · split
          · exact .of_same rfl rfl rfl
          · exact portsKept_countPort ..
        · exact portsKept_countPort ..
      · unfold lookUp
        dsimp only
        split
        · exact .of_same rfl rfl rfl
        · split
          · exact .of_same rfl rfl rfl
          · unfold sequenceStage
            dsimp only
            split
            · exact portsKept_acceptCell ..
            · exact .of_same rfl rfl rfl
            all_goals exact (portsKept_acceptCell ..).after rfl rfl rfl

theorem portsKept_respond {r : RespId} (q : Request) (code : Byte) (st : Status) (data : List Byte) {s : State}
    (hfree : s.me.slots[r] = none) : PortsKept s (respond r q code st data s) := by
  refine ⟨fun p => ?_, fun h => respond_queuesInv q code st data h hfree⟩
  unfold respond
  split
  next h =>
    rw [Bool.and_eq_true, reachable_iff] at h
    rw [appendControl_ports]
    split
    next e => subst e; exact .of_up rfl rfl (by exact h.1.2)
    · exact .refl _
  · exact (portsKept_countPort ..).port p

theorem portsKept_takeRequest {body : Request → State → Answer} (hb : BodyFrame body) (name : Option RequestName)
    (s : State) : PortsKept s (takeRequest name body s) := by
  refine takeRequest_frame_keeps hb (PortsKept s) name s (.refl s) (fun _ _ _ => .of_same rfl rfl rfl) ?_ ?_ ?_ ?_
  · exact fun q t h => h.trans (.of_same (by simp) (by simp) (by simp))
  · exact fun r q code st data t hr h => h.trans (portsKept_respond q code st data hr)
  · exact fun q code st data t h => h.trans (.of_same (by simp) (by simp) (by simp))
  · refine fun q t h => h.trans (.of_standing (fun p => ?_) (hb.pool q t) (hb.slots q t))
    obtain ⟨c, e⟩ := hb.ports q t p
    rw [e]
    exact ⟨rfl, rfl, rfl, rfl, rfl⟩

theorem portsKept_placeSync (s : State) (p : Port) : PortsKept s (placeSync s p) := by
  unfold placeSync
  split
  next h =>
    rw [Bool.and_eq_true, reachable_iff] at h
    split
    next hroom => exact portsKept_appendControl (by simp) h.2.2 ((controlRoom_iff ..).mp hroom)
    · exact portsKept_countPort ..
  · exact .refl s

theorem portsKept_sendNotice (s : State) : PortsKept s (sendNotice s) := by
  unfold sendNotice
  split
  · split
    next h =>
      rw [Bool.and_eq_true, reachable_iff, controlRoom_iff] at h
      exact (portsKept_appendControl (by simp) (by exact h.1.2) (by exact h.2)).after rfl rfl rfl
    · exact .refl s
  · exact .refl s

/-! ### A boundary's actions -/

/-- Every action but a port's own keeps the links. -/
theorem portsKept_boundaryAct {w : Swap} {s : State} {a : BoundaryAct} (h : ∀ p, a ≠ .port p) :
    PortsKept s (boundaryAct w s a) := by
  cases a <;> simp only [boundaryAct]
  case port p => exact absurd rfl (h p)
  case commitApplied => split <;> exact .of_same (by simp) (by simp) (by simp)
  case reevaluate => split <;> exact .of_same (by simp) (by simp) (by simp)
  case timingLoss => split <;> exact .of_same (by simp) (by simp) (by simp)
  case lease => exact .of_same (by simp) (by simp) (by simp)
  case silent => split <;> exact .of_same (by simp) (by simp) (by simp)
  case syncOut => exact foldl_keeps (PortsKept s) _ (fun t p ht => ht.trans (portsKept_placeSync t p)) _ _ (.refl s)
  case send => exact PortsKept.trans (.of_same (by simp) (by simp) (by simp)) (portsKept_sendNotice _)

/-- A port once it has followed the port_enable list from the old entry to the new (R155). -/
def PortState.followed (was now : Bool) (q : PortState) : PortState :=
  if was && !now then
    match q.link with
    | .up => q.dropped .down
    | .training => { q with link := .down }
    | .down => q
  else if !was && now then { q with link := if q.link = .down ∧ q.signal then .training else q.link }
  else q

theorem followPortEnable_ports (old : PortList) (p p' : Port) (s : State) : (followPortEnable old p s).ports[p'] =
    if p' = p then s.ports[p'].followed (inPortList old p) (s.enabled p) else s.ports[p'] := by
  unfold followPortEnable PortState.followed
  by_cases h1 : (inPortList old p && !s.enabled p) = true
  · simp only [h1, if_true]
    rcases hl : s.ports[p].link with _ | _ | _
    · dsimp only
      split
      next e => subst e; rw [hl]
      · rfl
    · dsimp only
      rw [modPort_ports]
      split
      next e => subst e; rw [hl]
      · rfl
    · have : (queueLink p false (dropLink p .down s)).ports = (dropLink p .down s).ports := rfl
      simp only [this, dropLink_ports]
      split
      next e => subst e; rw [hl]
      · rfl
  · rw [if_neg h1, if_neg h1]
    by_cases h2 : (!inPortList old p && s.enabled p) = true
    · rw [if_pos h2, if_pos h2]
      exact modPort_ports ..
    · rw [if_neg h2, if_neg h2, ite_self]

theorem PortState.linked.followed {q : PortState} {was : Bool} (h : q.linked was) (now : Bool) :
    (q.followed was now).linked now := by
  obtain ⟨hdown, hempty⟩ := h
  unfold PortState.followed
  cases was <;> cases now
  · exact ⟨hdown, hempty⟩
  · have hd : q.link = .down := hdown.mpr (by simp)
    simp only [Bool.false_and, Bool.not_false, Bool.true_and, if_true, hd, true_and, Bool.false_eq_true, if_false]
    refine ⟨?_, fun _ => hempty (by simp [hd])⟩
    cases hs : q.signal <;> simp
  · simp only [Bool.not_false, Bool.true_and, if_true]
    rcases hl : q.link with _ | _ | _ <;> simp only
    · exact ⟨by simp [hl], fun hn => hempty hn⟩
    · exact ⟨by simp, fun _ => hempty (by simp [hl])⟩
    · exact .dropped (by simp)
  · exact ⟨hdown, hempty⟩

theorem swapOf_taken (s : State) : (swapOf s).taken = true ↔ s.banks.state = .armed := by simp [swapOf]

theorem boundaryAct_port_swap {w : Swap} (s : State) (p : Port) (h : w.taken = true) :
    boundaryAct w s (.port p) = followPortEnable w.old.portEnable p s := if_pos h

theorem boundaryAct_port_noSwap {w : Swap} (s : State) (p : Port) (h : ¬ w.taken = true) :
    boundaryAct w s (.port p) = s := if_neg h

theorem takeBoundary_linkInv {k : BoundaryKind} {sch : List BoundaryAct} {s : State} (h : LinkInv s) :
    LinkInv (takeBoundary k sch s) := by
  have hend := takeBoundary_schedule_keeps (fun l u => u.part = s.nextPart ∧ ∀ p : Port, u.ports[p].linked
    (if s.banks.state = .armed ∧ BoundaryAct.port p ∈ l then s.enabled p else inPortList s.nextPart.portEnable p))
    k sch s ?_ ?_
  · intro p
    have hp := hend.2 p
    rw [State.enabled, hend.1]
    rw [if_neg (fun e => List.not_mem_nil e.2)] at hp
    exact hp
  · rintro a l u ho ⟨hpart, hports⟩
    refine ⟨(boundaryAct_part _ u a).trans hpart, fun p => ?_⟩
    by_cases ha : ∃ x, a = .port x
    · obtain ⟨x, rfl⟩ := ha
      have hp := hports p
      by_cases ht : s.banks.state = .armed
      · simp only [boundaryAct_port_swap u x ((swapOf_taken s).mpr ht), followPortEnable_ports]
        simp only [ht, true_and, List.mem_cons, BoundaryAct.port.injEq] at hp ⊢
        by_cases hpx : p = x
        · subst hpx
          rw [if_pos rfl, if_neg ho.tail.1]
          rw [if_pos (.inl rfl)] at hp
          have hnow : u.enabled p = inPortList s.nextPart.portEnable p := by rw [State.enabled, hpart]
          rw [hnow]
          exact hp.followed _
        · rw [if_neg hpx]
          simpa only [hpx, false_or] using hp
      · simp only [boundaryAct_port_noSwap u x (fun e => ht ((swapOf_taken s).mp e))]
        simp only [ht, false_and, if_false] at hp ⊢
        exact hp
    · have hmem : BoundaryAct.port p ∈ a :: l ↔ BoundaryAct.port p ∈ l := by
        rw [List.mem_cons, or_iff_right]
        exact fun e => ha ⟨p, e.symm⟩
      have hp := hports p
      simp only [hmem] at hp
      exact ((portsKept_boundaryAct (fun p e => ha ⟨p, e⟩)).port p).linked hp
  · refine ⟨?_, fun p => ?_⟩
    · rw [← afterSwap_part]
      simp [State.part]
    · have hports : (enterPeriod k s).ports = s.ports := by simp
      simp only [hports]
      have hp := h p
      by_cases ht : s.banks.state = .armed
      · rw [if_pos ⟨ht, mem_effectiveSchedule sch _⟩]
        exact hp
      · rw [if_neg (fun e => ht e.1), nextPart_of_not_armed ht]
        exact hp

/-! ### Every command -/

theorem takeSync_slots (s : State) : (takeSync s).me.slots = s.me.slots := by
  rcases takeSync_cases s with ⟨-, e⟩ | ⟨n, rest, -, e⟩ <;> rw [e]
  rcases actOnSync_cases n (syncOffset s.pt.tick s.pt.len)
    (s.modTf (fun f => { recordSync (syncOffset s.pt.tick s.pt.len) f with handed := rest })) with
    ⟨-, e⟩ | ⟨-, e⟩ | ⟨-, -, e⟩ | ⟨-, -, e⟩ | ⟨-, -, e⟩ <;> rw [e]
  · rfl
  · simp [askForStep]
  · unfold followSync
    dsimp only
    split <;> simp
  · unfold missSync
    dsimp only
    split <;> simp [giveUpLock]
  · simp [refuseSync, giveUpLock]

theorem portsKept_takeSyncFirst (closes : ForcedCloses) (s : State) : PortsKept s (takeSyncFirst closes s) := by
  refine .of_same (by simp) (by simp) ?_
  rcases takeSyncFirst_cases closes s with ⟨-, e⟩ | ⟨-, -, e⟩ <;> rw [e]
  exact takeSync_slots s

theorem takeSyncFirst_linkInv {s : State} (closes : ForcedCloses) (h : LinkInv s) : LinkInv (takeSyncFirst closes s) :=
  (portsKept_takeSyncFirst closes s).linkInv (by simp [State.part]) h

theorem carryStep_linkInv {closes : ForcedCloses} {sch : List BoundaryAct} {s : State} (h : LinkInv s) :
    LinkInv (carryStep closes sch s) := by
  have hforce : ∀ l, LinkInv (forceCloses l s) := fun l =>
    (portsKept_forceCloses l s).linkInv (by simp [State.part]) h
  rcases carryStep_cases closes sch s with ⟨-, e⟩ | ⟨l, -, e, -⟩ | ⟨n, l, -, -, -, e⟩ <;> rw [e]
  exacts [h, hforce l, takeBoundary_linkInv (hforce _)]

/-- A departure from UP to TRAINING keeps the links: an UP port is enabled and sees a signal. -/
theorem leaveUp_training_linkInv {p : Port} {o : LossOrder} {s t : State} (h : LinkInv s) (hup : s.ports[p].link = .up)
    (hpart : t.part = s.part) (hports : ∀ q : Port, SameLink s.ports[q] t.ports[q]) :
    LinkInv (leaveUp p .training o t) := by
  intro q
  have he : (leaveUp p .training o t).enabled q = s.enabled q := by
    have : (leaveUp p .training o t).part = t.part := by simp [State.part]
    rw [State.enabled, this, hpart, State.enabled]
  rw [he, leaveUp_ports]
  split
  next e =>
    subst e
    refine PortState.linked.dropped (iff_of_false nofun (not_not.mpr ?_))
    rw [(hports q).signal]
    by_contra hn
    exact absurd (hup.symm.trans ((h q).1.mpr hn)) nofun
  · exact (hports q).linked (h q)

theorem execTxComplete_linkInv {p : Port} {s t : State} (h : LinkInv s) (he : execTxComplete p s = .next t) :
    LinkInv t := by
  have hup : s.ports[p].tx ≠ .idle → s.ports[p].link = .up := fun hbusy => by
    by_contra hn
    exact hbusy ((h p).2 hn).2.2
  unfold execTxComplete at he
  split at he <;> cases he
  · exact h
  next hl =>
    refine linkInv_of_sameLink (fun p' => ?_) (by simp [State.part]) h
    rcases hc : s.ports[p].control with _ | ⟨e, rest⟩
    · simp only [completeControl, hc]
      exact .refl _
    · rw [completeControl_ports hc]
      split
      next e => subst e; exact .of_up rfl rfl (hup (by rw [hl]; nofun))
      · exact .refl _
  next hl =>
    refine linkInv_of_sameLink (fun p' => ?_) (by simp [State.part]) h
    rcases hd : s.ports[p].data with _ | ⟨b, rest⟩
    · simp only [completeData, hd]
      exact .refl _
    · rw [completeData_ports hd]
      split
      next e => subst e; exact .of_up rfl rfl (hup (by rw [hl]; nofun))
      · exact .refl _

theorem reset_linkInv : LinkInv State.reset := by
  intro p
  have hp : State.reset.ports[p] = PortState.powerOn := Vector.getElem_replicate _
  rw [hp]
  exact ⟨iff_of_true rfl (fun h => absurd h.2 nofun), fun _ => ⟨rfl, rfl, rfl⟩⟩

theorem softResetAll_linkInv {s : State} (h : LinkInv s) : LinkInv (softResetAll s) := by
  intro p
  have hpart : (softResetAll s).part = s.part := congrArg Bank.part (softResetBanks_frame s.banks).1
  have he : (softResetAll s).enabled p = s.enabled p := by rw [State.enabled, hpart, State.enabled]
  rw [he, softResetAll_ports]
  exact ⟨(h p).1, fun _ => ⟨rfl, rfl, rfl⟩⟩

theorem execSignalLost_linkInv {p : Port} {o : LossOrder} {s t : State} (h : LinkInv s)
    (he : execSignalLost p o s = .next t) : LinkInv t := by
  have hother : ∀ {q : PortState} {e : Bool}, q.link = .down → (q.control = [] ∧ q.data = [] ∧ q.tx = .idle) →
      q.signal = false → q.linked e := fun hl hq hs => ⟨iff_of_true hl (fun x => by simp [hs] at x), fun _ => hq⟩
  unfold execSignalLost at he
  dsimp only at he
  split at he
  next hl =>
    rw [← next_inj he]
    intro q
    have hpart : (leaveUp p .down o (s.modPort p (fun q => { q with signal := false }))).part = s.part := by
      simp [State.part]
    rw [State.enabled, hpart, leaveUp_ports, modPort_ports]
    split
    · exact PortState.linked.dropped (by simp)
    · exact h q
  next hl =>
    rw [← next_inj he]
    intro q
    rw [modPort_ports, modPort_ports]
    split
    next e => subst e; exact hother rfl ((h q).2 (by rw [hl]; nofun)) rfl
    · exact h q
  next hl =>
    rw [← next_inj he]
    intro q
    rw [modPort_ports]
    split
    next e => subst e; exact hother hl ((h q).2 (by rw [hl]; nofun)) rfl
    · exact h q

/-- The commands that neither move a link nor take an entry out of a queue nor begin a period. -/
def Instr.keepsPorts (c : Instr) : Bool :=
  match c with
  | .powerOnReset | .softReset | .boundary _ | .syncTaken .. | .signalDetected _ | .signalLost .. | .aligned _
  | .unaligned .. | .cellReceived .. | .txComplete _ => false
  | _ => true

theorem exec_keepsPorts {c : Instr} {s t : State} (hc : Instr.keepsPorts c = true) (he : exec c s = .next t) :
    PortsKept s t ∧ t.part = s.part := by
  by_cases hevent : Instr.isEvent c = false
  · obtain ⟨name, body, hb, he'⟩ := exec_request hevent
    obtain rfl := next_inj ((he' s).symm.trans he)
    exact ⟨portsKept_takeRequest hb name s, congrArg Bank.part (takeRequest_quiet hb name s).active⟩
  cases c <;> first | exact absurd rfl hevent | exact absurd hc Bool.false_ne_true | simp only [exec] at he
  case tickEnd =>
    unfold execTickEnd at he
    split at he <;> cases he
    exacts [⟨.of_same (by simp) (by simp) (by simp), by simp [State.part]⟩, ⟨.refl s, rfl⟩]
  case claimExpired =>
    unfold execClaimExpired at he
    split at he
    · split at he <;> cases he
      exacts [⟨.of_same (by simp) (by simp) (by simp), by simp [State.part]⟩, ⟨.refl s, rfl⟩]
    · cases he; exact ⟨.refl s, rfl⟩
  case syncMissing =>
    unfold execSyncMissing at he
    split at he <;> cases he
    exacts [⟨.of_same rfl rfl (by simp [loseLockBySilence]), rfl⟩, ⟨.refl s, rfl⟩]
  case refreshCopy =>
    have hpart := congrArg Bank.part (exec_quiet (c := .refreshCopy) rfl he).active
    unfold execRefreshCopy at he
    split at he <;> cases he
    exacts [⟨.of_same (t := s.modBanks copyPosition) rfl rfl rfl, hpart⟩, ⟨.refl s, rfl⟩]
  case refreshComplete =>
    unfold execRefreshComplete at he
    split at he <;> cases he
    exacts [⟨.of_same rfl rfl rfl, rfl⟩, ⟨.refl s, rfl⟩]
  case openWindow =>
    unfold execOpenWindow at he
    cases he
    split
    exacts [⟨.of_same (by simp) (by simp) (by simp), by simp [State.part]⟩, ⟨.refl s, rfl⟩]
  case closeWindow =>
    unfold execCloseWindow at he
    cases he
    split
    exacts [⟨portsKept_closeGroup _ _ s, by simp [State.part]⟩, ⟨.refl s, rfl⟩]

theorem portsKept_passCheck (p : Port) (s : State) : PortsKept s (passCheck p s) :=
  portsKept_modPort ⟨rfl, rfl, rfl, rfl, rfl⟩

/-- The port of a cell whose check failed, before any loss of the link. -/
theorem portsKept_rxCheck (p : Port) (s : State) : PortsKept s (s.modPort p (fun q => { q with
    errorRun := q.errorRun + 1, counters := { q.counters with rxCheck := satInc q.counters.rxCheck } })) :=
  portsKept_modPort ⟨rfl, rfl, rfl, rfl, rfl⟩

theorem exec_keeps_linkInv (c : Instr) (s t : State) (h : LinkInv s) (he : exec c s = .next t) : LinkInv t := by
  by_cases hc : Instr.keepsPorts c = true
  · obtain ⟨hports, hpart⟩ := exec_keepsPorts hc he
    exact hports.linkInv hpart h
  cases c <;> first | exact absurd rfl hc | simp only [exec] at he
  case powerOnReset => rw [← next_inj he]; exact reset_linkInv
  case softReset =>
    unfold execSoftReset at he
    split at he <;> cases he
    exacts [softResetAll_linkInv h, h]
  case boundary =>
    unfold execBoundary at he
    split at he <;> cases he
    exacts [takeBoundary_linkInv ((PortsKept.of_same (by simp) (by simp) (by simp)).linkInv (by simp [State.part]) h), h]
  case syncTaken closes sch =>
    rw [← next_inj he]
    exact carryStep_linkInv (takeSyncFirst_linkInv closes h)
  case signalDetected p =>
    rw [← next_inj he]
    intro q
    rw [modPort_ports]
    split
    next e =>
      subst e
      obtain ⟨hdown, hempty⟩ := h q
      change PortState.linked (s.enabled q) _
      cases he : s.enabled q
      · rw [he] at hdown
        have hd : s.ports[q].link = .down := hdown.mpr (by simp)
        exact ⟨iff_of_true ((if_neg (by simp)).trans hd) (by simp), fun _ => hempty (by rw [hd]; nofun)⟩
      · refine ⟨?_, fun hn => hempty (fun hup => hn ?_)⟩
        · rcases hl : s.ports[q].link with _ | _ | _ <;> simp
        · show (if s.ports[q].link = .down ∧ _ then Link.training else s.ports[q].link) = .up
          rw [if_neg (by rw [hup]; simp), hup]
    · exact h q
  case signalLost => exact execSignalLost_linkInv h he
  case aligned p =>
    unfold execAligned at he
    split at he <;> cases he
    next hl =>
      intro q
      have hports : (queueLink p true (s.modPort p (fun q => { q with link := .up, errorRun := 0 }))).ports =
          (s.modPort p (fun q => { q with link := .up, errorRun := 0 })).ports := rfl
      simp only [hports, modPort_ports]
      split
      next e =>
        subst e
        refine ⟨iff_of_false nofun (fun hn => ?_), fun hn => absurd rfl hn⟩
        exact absurd (hl.symm.trans ((h q).1.mpr hn)) nofun
      · exact h q
    · exact h
  case unaligned =>
    unfold execUnaligned at he
    split at he <;> cases he
    next hl => exact leaveUp_training_linkInv h hl rfl (fun _ => .refl _)
    · exact h
  case cellReceived p c o =>
    unfold execCellReceived at he
    split at he
    next hl =>
      split at he <;> cases he
      · exact ((portsKept_passCheck p s).trans (portsKept_classify p c _)).linkInv (by simp [State.part, passCheck]) h
      · unfold failCheck
        dsimp only
        split
        · exact leaveUp_training_linkInv h hl rfl (portsKept_rxCheck p s).port
        · exact (portsKept_rxCheck p s).linkInv rfl h
    · cases he; exact h
  case txComplete => exact execTxComplete_linkInv h he

/-- Settles O10. -/
theorem stepsKeepTheLinks : Obligations.StepsKeepTheLinks :=
  step_keeps LinkInv (fun _ _ h => h) exec_keeps_linkInv

/-! ### The queues under every command -/

theorem followPortEnable_queuesInv {s : State} (old : PortList) (p : Port) (h : QueuesInv s) :
    QueuesInv (followPortEnable old p s) := by
  have hlink : ∀ f : PortState → PortState, (∀ q, SameQueues q (f q)) → QueuesInv (s.modPort p f) :=
    fun f hf => h.congr (fun p' => by rw [modPort_ports]; split; exacts [hf _, ⟨rfl, rfl, rfl⟩]) rfl rfl
  unfold followPortEnable
  split
  · split
    · exact (dropLink_queuesInv p .down h).congr (fun _ => ⟨rfl, rfl, rfl⟩) rfl (by simp [queueLink])
    · exact hlink _ (fun _ => ⟨rfl, rfl, rfl⟩)
    · exact h
  · split
    · exact hlink _ (fun _ => ⟨rfl, rfl, rfl⟩)
    · exact h

theorem takeBoundary_queuesInv {k : BoundaryKind} {sch : List BoundaryAct} {s : State} (h : QueuesInv s) :
    QueuesInv (takeBoundary k sch s) := by
  refine takeBoundary_schedule_keeps (fun _ u => QueuesInv u) k sch s (fun a l u _ hu => ?_) ?_
  · by_cases ha : ∃ p, a = .port p
    · obtain ⟨p, rfl⟩ := ha
      unfold boundaryAct
      dsimp only
      split
      exacts [followPortEnable_queuesInv _ p hu, hu]
    · exact (portsKept_boundaryAct (fun p e => ha ⟨p, e⟩)).queues hu
  · exact h.congr (fun _ => by simp) (by simp) (by simp)

theorem reset_queuesInv : QueuesInv State.reset := by
  have hport : ∀ p : Port, State.reset.ports[p] = PortState.powerOn := fun p => Vector.getElem_replicate _
  have hslot : ∀ r : RespId, State.reset.me.slots[r] = none := fun r => Vector.getElem_replicate _
  have hpool : ∀ b : BufId, State.reset.pool[b].refs = 0 := fun b => congrArg Buffer.refs (Vector.getElem_replicate _)
  refine ⟨fun b => ?_, fun r => ?_, fun p => ?_⟩
  · rw [hpool, dataEntries]
    simp only [hport]
    rfl
  · rw [hslot, responseEntries]
    simp only [hport]
    rfl
  · rw [hport]
    exact ⟨Nat.zero_le _, Nat.zero_le _, List.nodup_nil, nofun, nofun⟩

theorem softResetAll_queuesInv (s : State) : QueuesInv (softResetAll s) := by
  have hslot : ∀ r : RespId, (softResetAll s).me.slots[r] = none := fun r => Vector.getElem_replicate _
  have hempty : ∀ p : Port, (softResetAll s).ports[p].control = [] ∧ (softResetAll s).ports[p].data = [] ∧
      (softResetAll s).ports[p].tx = .idle := by
    intro p
    rw [softResetAll_ports]
    exact ⟨rfl, rfl, rfl⟩
  refine ⟨fun b => ?_, fun r => ?_, fun p => ?_⟩
  · rw [softResetAll_pool, dataEntries]
    simp only [(hempty _).2.1]
    rfl
  · rw [hslot, responseEntries]
    simp only [(hempty _).1]
    rfl
  · obtain ⟨c, d, x⟩ := hempty p
    rw [c, d, x]
    exact ⟨Nat.zero_le _, Nat.zero_le _, List.nodup_nil, nofun, nofun⟩

theorem exec_keeps_queuesInv (c : Instr) (s t : State) (h : QueuesInv s) (he : exec c s = .next t) : QueuesInv t := by
  by_cases hc : Instr.keepsPorts c = true
  · exact (exec_keepsPorts hc he).1.queues h
  cases c <;> first | exact absurd rfl hc | simp only [exec] at he
  case powerOnReset => rw [← next_inj he]; exact reset_queuesInv
  case softReset =>
    unfold execSoftReset at he
    split at he <;> cases he
    exacts [softResetAll_queuesInv s, h]
  case boundary =>
    unfold execBoundary at he
    split at he <;> cases he
    exacts [takeBoundary_queuesInv (h.congr (fun _ => by simp) (by simp) (by simp)), h]
  case syncTaken closes sch =>
    rw [← next_inj he]
    have htaken : QueuesInv (takeSyncFirst closes s) := (portsKept_takeSyncFirst closes s).queues h
    have hforce : ∀ l, QueuesInv (forceCloses l (takeSyncFirst closes s)) := fun l =>
      (portsKept_forceCloses l _).queues htaken
    rcases carryStep_cases closes sch (takeSyncFirst closes s) with ⟨-, e⟩ | ⟨l, -, e, -⟩ | ⟨n, l, -, -, -, e⟩ <;> rw [e]
    exacts [htaken, hforce l, takeBoundary_queuesInv (hforce _)]
  case signalDetected p =>
    rw [← next_inj he]
    refine h.congr (fun q => ?_) rfl rfl
    rw [modPort_ports]
    split <;> exact ⟨rfl, rfl, rfl⟩
  case signalLost p o =>
    have hmod : ∀ f : PortState → PortState, (∀ q, SameQueues q (f q)) → QueuesInv (s.modPort p f) :=
      fun f hf => h.congr (fun p' => by rw [modPort_ports]; split; exacts [hf _, ⟨rfl, rfl, rfl⟩]) rfl rfl
    have hsignal := hmod (fun q => { q with signal := false }) (fun _ => ⟨rfl, rfl, rfl⟩)
    unfold execSignalLost at he
    dsimp only at he
    split at he <;> rw [← next_inj he]
    · exact leaveUp_queuesInv p .down o hsignal
    · refine hsignal.congr (fun q => ?_) rfl rfl
      rw [modPort_ports]
      split <;> exact ⟨rfl, rfl, rfl⟩
    · exact hsignal
  case aligned p =>
    unfold execAligned at he
    split at he <;> cases he
    · refine h.congr (fun q => ?_) rfl (by simp [queueLink])
      have hports : (queueLink p true (s.modPort p (fun q => { q with link := .up, errorRun := 0 }))).ports =
          (s.modPort p (fun q => { q with link := .up, errorRun := 0 })).ports := rfl
      simp only [hports, modPort_ports]
      split <;> exact ⟨rfl, rfl, rfl⟩
    · exact h
  case unaligned p o =>
    unfold execUnaligned at he
    split at he <;> cases he
    exacts [leaveUp_queuesInv p .training o h, h]
  case cellReceived p c o =>
    unfold execCellReceived at he
    split at he
    · split at he <;> cases he
      · exact ((portsKept_passCheck p s).trans (portsKept_classify p c _)).queues h
      · unfold failCheck
        dsimp only
        split
        · exact leaveUp_queuesInv p .training o ((portsKept_rxCheck p s).queues h)
        · exact (portsKept_rxCheck p s).queues h
    · cases he; exact h
  case txComplete p =>
    unfold execTxComplete at he
    split at he <;> cases he
    exacts [h, completeControl_queuesInv p h, completeData_queuesInv p h]

/-- Settles O11. -/
theorem stepsKeepTheQueues : Obligations.StepsKeepTheQueues :=
  step_keeps QueuesInv (fun _ _ h => h) exec_keeps_queuesInv

end Sys2Proof.Machine
end

section
/-!
What begins a period (R7, R12): the command, the period it begins (R3, R5, R6), and the state after power-on reset.
-/

namespace Sys2Proof.Machine

/-! ### The invariants at reset -/

theorem reset_groupsInv : GroupsInv State.reset := by
  refine ⟨(banksInv_iff _).mpr banksKept_matched.powerOn, fun g => ?_⟩
  rw [reset_group]
  exact iff_of_true rfl (congrArg GroupRec.enabled (Vector.getElem_replicate _))

/-- Settles O6. -/
theorem resetMeetsTheInvariants : Obligations.ResetMeetsTheInvariants :=
  ⟨reset_scheduleInv, reset_timingInv, reset_groupsInv, reset_linkInv, reset_queuesInv, afterReset_sound _⟩

/-! ### The command -/

/-- The state in which a boundary or step begins: only the age of a copy that is under way has changed. -/
def State.withCopyAge (x : Nat) (s : State) : State := { s with banks := { s.banks with copyAge := x } }

theorem ageCopy_eq (s : State) : ∃ x, ageCopy s = s.withCopyAge x := by
  unfold ageCopy
  split
  · exact ⟨_, rfl⟩
  · exact ⟨s.banks.copyAge, rfl⟩

theorem exec_boundary_due {s : State} (h : BoundaryDue s) (sch : List BoundaryAct) :
    exec (.boundary sch) s = .next (takeBoundary .ordinary sch (ageCopy s)) := by
  obtain ⟨hend, hlen⟩ := h
  exact if_pos ⟨hend, by omega⟩

/-- Groups that are not OPEN take no forced close (R41). -/
theorem forceCloses_shut {s : State} (h : ∀ g : GroupId, s.groups[g].state ≠ .opened) (l : List GroupId) :
    forceCloses l s = s := by
  induction l with
  | nil => rfl
  | cons g l ih =>
    unfold forceCloses at *
    rw [List.foldl_cons, closeGroup_shut (h g), ih]

theorem carryStep_all {n : Half} {s : State} (first : List GroupId) (sch : List BoundaryAct)
    (h : s.pt.stepRequest = some n) (hsync : MovesTiming s → s.tf.handed = []) :
    carryStep (.all first) sch s = takeBoundary (.step n) sch (forceCloses (first ++ allGroups) s) := by
  have hwait : stepWaits s = false := by
    unfold stepWaits
    rw [Bool.and_eq_false_iff]
    by_cases hm : MovesTiming s
    · exact .inr (by rw [hsync hm]; rfl)
    · exact .inl (Bool.eq_false_iff.mpr (fun e => hm ((swapMovesTiming_iff s).mp e)))
  unfold carryStep
  rw [h]
  dsimp only
  rw [hwait]
  rfl

theorem exec_syncTaken_step {n : Half} {s : State} (first : List GroupId) (sch : List BoundaryAct)
    (h : s.pt.stepRequest = some n) (hsync : MovesTiming s → s.tf.handed = []) : exec (.syncTaken (.all first) sch) s =
    .next (takeBoundary (.step n) sch (forceCloses (first ++ allGroups) s)) := by
  have hfirst : takeSyncFirst (.all first) s = s := if_neg (by rw [h]; nofun)
  simp only [exec, execSyncTaken]
  rw [hfirst, carryStep_all first sch h hsync]

/-- What begins a period takes the boundary, of either kind, in the state as it is but for a copy's age. -/
theorem exec_begins {c : Instr} {sch : List BoundaryAct} {s : State} (h : Begins c sch s) :
    ∃ k x, exec c s = .next (takeBoundary k sch (s.withCopyAge x)) := by
  rcases h with ⟨rfl, hdue⟩ | ⟨first, rfl, hstep, hsync, hshut⟩
  · obtain ⟨x, hx⟩ := ageCopy_eq s
    exact ⟨.ordinary, x, by rw [exec_boundary_due hdue, hx]⟩
  · obtain ⟨n, hn⟩ := Option.ne_none_iff_exists'.mp hstep
    exact ⟨.step n, s.banks.copyAge, by rw [exec_syncTaken_step first sch hn hsync, forceCloses_shut hshut]; rfl⟩

/-! ### The period -/

theorem takeBoundary_pt (k : BoundaryKind) (sch : List BoundaryAct) (s : State) :
    (takeBoundary k sch s).pt = beginPeriod k s.nextPart s.pt := by
  rw [(takeBoundary_frame k sch s).1, afterSwap_part]

theorem nextPart_congr {s t : State} (h : t.banks = s.banks) : t.nextPart = s.nextPart := by
  unfold State.nextPart
  rw [h]

/-- The accumulator and the base of a period, by the sum with F (R3). -/
theorem newPhase_newBase (r : PartRec) (phase : Nat) :
    (16 ≤ phase + r.fraction → newPhase r phase + 16 = phase + r.fraction ∧ newBase r phase = r.baseLen + 1) ∧
    (phase + r.fraction < 16 → newPhase r phase = phase + r.fraction ∧ newBase r phase = r.baseLen) := by
  unfold newPhase newBase
  constructor <;> intro h
  · rw [if_pos h, if_pos h]
    exact ⟨by omega, rfl⟩
  · rw [if_neg (by omega), if_neg (by omega)]
    exact ⟨rfl, rfl⟩

/-- A period's phase and length as R3 states them. -/
theorem phased_of_begun {r : PartRec} {phase : Nat} (hphase : phase ≤ 15) (hfraction : r.fraction ≤ 15) {pt : PeriodTimer}
    {adjusted : Prop} (hpt : pt.phase = newPhase r phase) (hlen : ¬ adjusted → pt.len = newBase r phase) :
    pt.phase ≤ 15 ∧
    (16 ≤ phase + r.fraction → pt.phase + 16 = phase + r.fraction ∧ (¬ adjusted → pt.len = r.baseLen + 1)) ∧
    (phase + r.fraction < 16 → pt.phase = phase + r.fraction ∧ (¬ adjusted → pt.len = r.baseLen)) := by
  obtain ⟨hover, hunder⟩ := newPhase_newBase r phase
  rw [hpt]
  refine ⟨?_, fun h => ⟨(hover h).1, fun ha => (hlen ha).trans (hover h).2⟩,
    fun h => ⟨(hunder h).1, fun ha => (hlen ha).trans (hunder h).2⟩⟩
  by_cases h : 16 ≤ phase + r.fraction
  · have := (hover h).1
    omega
  · have := (hunder (by omega)).1
    omega

/-- A step asked for, or one that the SYNC taken now asks for, is taken once its closes are made. -/
theorem exec_syncTaken_all {s : State} (first : List GroupId) (sch : List BoundaryAct)
    (h : (s.pt.stepRequest ≠ none ∧ (MovesTiming s → s.tf.handed = [])) ∨
      (s.pt.stepRequest = none ∧ s.tf.state = .acquire ∧
        ∃ n rest, s.tf.handed = n :: rest ∧ (MovesTiming s → rest = []))) :
    ∃ u n, exec (.syncTaken (.all first) sch) s =
      .next (takeBoundary (.step n) sch (forceCloses (first ++ allGroups) u)) ∧ u.banks = s.banks ∧
      u.pt.phase = s.pt.phase := by
  rcases h with ⟨hstep, hsync⟩ | ⟨hnone, hacquire, n, rest, hn, hsync⟩
  · obtain ⟨n, hn⟩ := Option.ne_none_iff_exists'.mp hstep
    exact ⟨s, n, exec_syncTaken_step first sch hn hsync, rfl, rfl⟩
  · have htake : takeSync s = askForStep n (s.modTf (fun f =>
        { recordSync (syncOffset s.pt.tick s.pt.len) f with handed := rest })) := by
      unfold takeSync actOnSync
      simp only [hn, State.modTf_tf, recordSync, hacquire]
    have hfirst : takeSyncFirst (.all first) s = takeSync s := if_pos hnone
    refine ⟨takeSync s, n, ?_, by simp, by rw [htake]; rfl⟩
    have hasked : (takeSync s).pt.stepRequest = some n := by rw [htake]; rfl
    simp only [exec, execSyncTaken]
    rw [hfirst, carryStep_all first sch hasked]
    intro hm
    have hrest : rest = [] := hsync (by unfold MovesTiming at *; simpa using hm)
    rw [htake, ← hrest]
    rfl

/-- Settles O15. -/
theorem phaseAccumulatesAtEveryBoundary : Obligations.PhaseAccumulatesAtEveryBoundary := by
  intro s hphase hfraction
  dsimp only
  refine ⟨fun sch hdue => ⟨_, exec_boundary_due hdue sch, ?_⟩, fun first sch hstep => ?_⟩
  · obtain ⟨x, hx⟩ := ageCopy_eq s
    have hpt : (takeBoundary .ordinary sch (ageCopy s)).pt = beginPeriod .ordinary s.nextPart s.pt := by
      rw [takeBoundary_pt, hx]
      rfl
    refine phased_of_begun hphase hfraction (by rw [hpt]; rfl) (fun ha => ?_)
    rw [hpt]
    change adjustedLength s.nextPart (newBase s.nextPart s.pt.phase) s.pt.pendingAdj = _
    rcases hadj : s.pt.pendingAdj with _ | d
    · rfl
    · refine adjustedLength_free ?_ _ _
      cases hs : s.nextPart.source with
      | free => rfl
      | follow => exact absurd ⟨by rw [hadj]; nofun, hs⟩ ha
  · obtain ⟨u, n, he, hbanks, hp⟩ := exec_syncTaken_all first sch hstep
    have hpt : (takeBoundary (.step n) sch (forceCloses (first ++ allGroups) u)).pt =
        beginPeriod (.step n) s.nextPart u.pt := by
      rw [takeBoundary_pt, nextPart_congr (s := s) (by simpa using hbanks)]
      simp
    refine ⟨_, he, phased_of_begun hphase hfraction ?_ (fun _ => ?_)⟩ <;> rw [hpt, ← hp] <;> rfl

/-- Settles O16. -/
theorem boundaryBeginsThePeriod : Obligations.BoundaryBeginsThePeriod := by
  intro s sch
  have hbase : (if 16 ≤ s.pt.phase + s.nextPart.fraction then s.nextPart.baseLen + 1 else s.nextPart.baseLen) =
      newBase s.nextPart s.pt.phase := rfl
  dsimp only
  rw [hbase]
  refine ⟨fun hdue => ⟨_, exec_boundary_due hdue sch, ?_⟩, fun first n hn hsync =>
    ⟨_, exec_syncTaken_step first sch hn hsync, ?_⟩⟩
  · obtain ⟨x, hx⟩ := ageCopy_eq s
    have hpt : (takeBoundary .ordinary sch (ageCopy s)).pt = beginPeriod .ordinary s.nextPart s.pt := by
      rw [takeBoundary_pt, hx]
      rfl
    rw [hpt]
    refine ⟨rfl, rfl, rfl, fun n hn => ?_, fun hn => ?_, fun hn => ?_, fun hs => adjustedLength_free hs _ _,
      fun d hd hs => ?_⟩
    · simp [beginPeriod, hn]
    · simp [beginPeriod, hn]
    · simp [beginPeriod, hn, adjustedLength_none]
    · simp only [beginPeriod, hd]
      exact adjustedLength_follow hs _ d
  · rw [takeBoundary_pt, nextPart_congr (s := s) (by simp), (forceCloses_frame _ _).1]
    exact ⟨rfl, rfl, rfl, rfl, rfl, rfl⟩

end Sys2Proof.Machine
end

section
/-!
The ports over a boundary or step (R12, R100, R145, R155, R183): the schedule cut at the SYNC cells and the sending, and
what each of the parts does to a port.
-/

namespace Sys2Proof.Machine

/-! ### The schedule, cut -/

/-- The actions that follow the SYNC cells or the sending, beside those two. -/
def trailing (a : BoundaryAct) : Prop := a = .lease ∨ a = .silent

theorem swapActs_or_own (a : BoundaryAct) :
    a ∈ swapActs ∨ a = .lease ∨ a = .silent ∨ a = .syncOut ∨ a = .send := by
  cases a
  case port p => exact .inl (by revert p; decide)
  all_goals decide

/-- A schedule up to the first of the SYNC cells and the sending, between the two, and after the second: all that the swap
takes stands in the first part. -/
structure Cut (l A B C : List BoundaryAct) (x y : BoundaryAct) : Prop where
  eq : l = A ++ x :: (B ++ y :: C)
  acts : (x = .syncOut ∧ y = .send) ∨ (x = .send ∧ y = .syncOut)
  swap : ∀ a ∈ swapActs, a ∈ A
  before : ∀ a ∈ A, a ≠ .syncOut ∧ a ≠ .send
  between : ∀ a ∈ B, trailing a
  after : ∀ a ∈ C, a = .silent
  sent : x = .send → ∀ a ∈ B, a = .silent

theorem orderly_cut {l : List BoundaryAct} (ho : Orderly l) (hall : ∀ a, a ∈ l) {A B C : List BoundaryAct}
    {x y : BoundaryAct} (heq : l = A ++ x :: (B ++ y :: C))
    (hxy : (x = .syncOut ∧ y = .send) ∨ (x = .send ∧ y = .syncOut)) : Cut l A B C x y := by
  obtain ⟨hnodup, hpair⟩ := ho
  rw [heq] at hnodup hpair
  obtain ⟨-, hnodup, hdisj⟩ := List.nodup_append.mp hnodup
  obtain ⟨hx, hnodup⟩ := List.nodup_cons.mp hnodup
  obtain ⟨-, hnodup, hdisj'⟩ := List.nodup_append.mp hnodup
  obtain ⟨hy, -⟩ := List.nodup_cons.mp hnodup
  obtain ⟨-, hpair, -⟩ := List.pairwise_append.mp hpair
  obtain ⟨hafterx, hpair⟩ := List.pairwise_cons.mp hpair
  obtain ⟨-, hpair, -⟩ := List.pairwise_append.mp hpair
  obtain ⟨haftery, -⟩ := List.pairwise_cons.mp hpair
  have hown : ∀ z, (z = x ∨ z = y) → z = .syncOut ∨ z = .send := by
    rintro z (rfl | rfl) <;> rcases hxy with ⟨rfl, rfl⟩ | ⟨rfl, rfl⟩ <;> simp
  have hnot : ∀ b ∈ B ++ y :: C, b ∉ swapActs := by
    intro b hb hs
    obtain ⟨-, h1, h2⟩ := (hafterx b hb).1 hs
    rcases hown x (.inl rfl) with h | h
    exacts [h1 h, h2 h]
  have hrest : ∀ b, b ∈ B ∨ b ∈ C → trailing b := by
    intro b hb
    have hmem : b ∈ B ++ y :: C := by
      rw [List.mem_append, List.mem_cons]
      exact hb.imp_right .inr
    have hbx : b ≠ x := fun e => hx (e ▸ hmem)
    have hby : b ≠ y := by
      rcases hb with hb | hb
      · exact hdisj' b hb y (List.mem_cons_self ..)
      · exact fun e => hy (e ▸ hb)
    rcases swapActs_or_own b with h | h | h | h | h
    · exact absurd h (hnot b hmem)
    · exact .inl h
    · exact .inr h
    all_goals rcases hxy with ⟨rfl, rfl⟩ | ⟨rfl, rfl⟩ <;> first | exact absurd h hbx | exact absurd h hby
  have hsent : ∀ b ∈ B ++ y :: C, x = .send → b ≠ .lease := fun b hb e h => (hafterx b hb).2 h e
  refine ⟨heq, hxy, fun a ha => ?_, fun a ha => ?_, fun a ha => hrest a (.inl ha), fun a ha => ?_, fun e a ha => ?_⟩
  · have hmem := hall a
    rw [heq, List.mem_append, List.mem_cons] at hmem
    rcases hmem with h | rfl | h
    · exact h
    · rcases hown a (.inl rfl) with rfl | rfl <;> exact absurd ha (by decide)
    · exact absurd ha (hnot a h)
  · have hne : ∀ z, (z = x ∨ z = y) → a ≠ z := by
      rintro z (rfl | rfl)
      · exact hdisj a ha z (List.mem_cons_self ..)
      · exact hdisj a ha z (by simp)
    rcases hxy with ⟨rfl, rfl⟩ | ⟨rfl, rfl⟩
    · exact ⟨hne _ (.inl rfl), hne _ (.inr rfl)⟩
    · exact ⟨hne _ (.inr rfl), hne _ (.inl rfl)⟩
  · refine (hrest a (.inr ha)).resolve_left (fun h => ?_)
    rcases hxy with ⟨-, rfl⟩ | ⟨rfl, -⟩
    · exact (haftery a ha).2 h rfl
    · exact hsent a (by simp [ha]) rfl h
  · exact (hrest a (.inl ha)).resolve_left (hsent a (by simp [ha]) e)

theorem effectiveSchedule_cut (l : List BoundaryAct) : ∃ A B C x y, Cut (effectiveSchedule l) A B C x y := by
  have ho := effectiveSchedule_orderly l
  have hall := mem_effectiveSchedule l
  generalize effectiveSchedule l = m at ho hall
  obtain ⟨A, C, heq⟩ := List.append_of_mem (hall .syncOut)
  have hsend : BoundaryAct.send ∈ A ∨ BoundaryAct.send ∈ C := by simpa [heq] using hall .send
  rcases hsend with h | h
  · obtain ⟨A', B, rfl⟩ := List.append_of_mem h
    exact ⟨A', B, C, .send, .syncOut, orderly_cut ho hall (by simp [heq]) (.inr ⟨rfl, rfl⟩)⟩
  · obtain ⟨B, C', rfl⟩ := List.append_of_mem h
    exact ⟨A, B, C', .syncOut, .send, orderly_cut ho hall heq (.inl ⟨rfl, rfl⟩)⟩

/-- The state a list of actions leaves. -/
def runActs (w : Swap) (l : List BoundaryAct) (s : State) : State := l.foldl (boundaryAct w) s

/-- A boundary or step in its five parts. -/
theorem takeBoundary_cut {k : BoundaryKind} {sch A B C : List BoundaryAct} {x y : BoundaryAct} {s : State}
    (h : Cut (effectiveSchedule sch) A B C x y) : takeBoundary k sch s =
    runActs (swapOf s) C (boundaryAct (swapOf s) (runActs (swapOf s) B
      (boundaryAct (swapOf s) (runActs (swapOf s) A (enterPeriod k s)) x)) y) := by
  unfold takeBoundary runActs
  rw [h.eq, List.foldl_append, List.foldl_cons, List.foldl_append, List.foldl_cons]

/-! ### CONTROL growing -/

/-- A port whose CONTROL has grown by `l` and whose SYNC_SKIP is now `skip`; an idle transmitter with CONTROL empty has
started the first entry (R100). -/
structure Grew (s : State) (q q' : PortState) (l : List ControlEntry) (skip : Counter) : Prop where
  shape : q' = { q with control := q.control ++ l, tx := q'.tx, counters := { q.counters with syncSkip := skip } }
  kept : q.tx ≠ .idle ∨ l = [] → q'.tx = q.tx
  started : q.tx = .idle → q.control = [] → ∀ x xs, l = x :: xs → q'.tx = .sending .control (controlCell s x)

theorem Grew.refl (s : State) (q : PortState) : Grew s q q [] q.counters.syncSkip :=
  ⟨by simp, fun _ => rfl, fun _ _ _ _ => nofun⟩

theorem Grew.control {s : State} {q q' : PortState} {l : List ControlEntry} {k : Counter} (h : Grew s q q' l k) :
    q'.control = q.control ++ l := by rw [h.shape]

theorem Grew.link {s : State} {q q' : PortState} {l : List ControlEntry} {k : Counter} (h : Grew s q q' l k) :
    q'.link = q.link := by rw [h.shape]

theorem Grew.skips {s : State} {q q' : PortState} {l : List ControlEntry} {k : Counter} (h : Grew s q q' l k) :
    q'.counters.syncSkip = k := by rw [h.shape]

theorem Grew.trans {s : State} {q q' q'' : PortState} {l l' : List ControlEntry} {k k' : Counter} (h : Grew s q q' l k)
    (h' : Grew s q' q'' l' k') : Grew s q q'' (l ++ l') k' := by
  refine ⟨?_, fun hk => ?_, fun hidle hc x xs hl => ?_⟩
  · rw [h'.shape, h.shape]
    simp
  · rcases hk with hk | hk
    · rw [h'.kept (.inl (by rwa [h.kept (.inl hk)])), h.kept (.inl hk)]
    · obtain ⟨hl, hl'⟩ := List.append_eq_nil_iff.mp hk
      rw [h'.kept (.inr hl'), h.kept (.inr hl)]
  · rcases l with _ | ⟨y, ys⟩
    · exact h'.started ((h.kept (.inr rfl)).trans hidle) (by rw [h.control, hc]; rfl) x xs hl
    · obtain ⟨rfl, -⟩ := List.cons_eq_cons.mp hl
      have hs := h.started hidle hc y ys rfl
      rw [h'.kept (.inl (by rw [hs]; nofun)), hs]

theorem controlCell_other {s t : State} {e : ControlEntry} (h : ∀ r, e ≠ .response r) :
    controlCell t e = controlCell s e := by
  cases e
  case response r => exact absurd rfl (h r)
  all_goals rfl

theorem Grew.append {s : State} {q : PortState} {e : ControlEntry} (he : ∀ r, e ≠ .response r) (hup : q.link = .up)
    (u : State) (g : BufId → Cell) : Grew s q (q.withControl (controlCell u) g e) [e] q.counters.syncSkip := by
  refine ⟨rfl, fun hk => ?_, fun hidle hc x xs hl => ?_⟩
  · exact arbitrated_busy (hk.resolve_right nofun)
  · obtain ⟨rfl, rfl⟩ := List.cons_eq_cons.mp hl
    rw [← controlCell_other (t := u) he]
    exact arbitrated_control (q := { q with control := q.control ++ [e] }) hidle hup (l := []) (by rw [hc]; rfl)

theorem Grew.controlGrew {s : State} {p : Port} {q q' : PortState} {l : List ControlEntry} {k : Counter}
    (h : Grew s q q' l k) (hk : inPortList s.nextPart.syncOut p = false → k = q.counters.syncSkip) :
    ControlGrew s p q q' := ⟨l, q'.tx, k, h.shape, h.kept, hk⟩

/-! ### The SYNC cells (R145) -/

/-- The ports that the SYNC cells reach. -/
def syncsOn (r : PartRec) (p : Port) (q : PortState) : Prop :=
  inPortList r.syncOut p = true ∧ inPortList r.portEnable p = true ∧ q.link = .up

/-- A port before and after the SYNC cells of a period of that number. -/
def SyncStep (s : State) (r : PartRec) (n : Half) (p : Port) (q q' : PortState) : Prop :=
  (syncsOn r p q → q.control.length < 4 → Grew s q q' [.sync r.syncId n] q.counters.syncSkip) ∧
  (syncsOn r p q → 4 ≤ q.control.length → Grew s q q' [] (satAdd q.counters.syncSkip 1)) ∧
  (¬ syncsOn r p q → q' = q)

/-- A port that counts a SYNC it has no place for (R145). -/
def PortState.countSkip (q : PortState) : PortState :=
  { q with counters := { q.counters with syncSkip := satAdd q.counters.syncSkip 1 } }

/-- A port once the SYNC cells are placed. -/
def PortState.synced (controlOf : ControlEntry → Cell) (cellOf : BufId → Cell) (r : PartRec) (n : Half) (p : Port)
    (q : PortState) : PortState :=
  if inPortList r.syncOut p = true ∧ inPortList r.portEnable p = true ∧ q.link = .up then
    if q.control.length < 4 then q.withControl controlOf cellOf (.sync r.syncId n) else q.countSkip
  else q

theorem placeSync_ports (u : State) (p p' : Port) : (placeSync u p).ports[p'] =
    if p' = p then u.ports[p'].synced (controlCell u) (fun b => u.pool[b].cell) u.part u.pt.period p'
    else u.ports[p'] := by
  have hcond : (inPortList u.part.syncOut p && reachable u p) = true ↔
      inPortList u.part.syncOut p = true ∧ inPortList u.part.portEnable p = true ∧ u.ports[p].link = .up := by
    rw [Bool.and_eq_true, reachable_iff]
    rfl
  unfold placeSync PortState.synced
  by_cases hs : inPortList u.part.syncOut p = true ∧ inPortList u.part.portEnable p = true ∧ u.ports[p].link = .up
  · rw [if_pos (hcond.mpr hs)]
    by_cases hr : u.ports[p].control.length < 4
    · rw [if_pos ((controlRoom_iff u p).mpr hr), appendControl_ports]
      split
      next e => subst e; rw [if_pos hs, if_pos hr]
      · rfl
    · rw [if_neg (fun e => hr ((controlRoom_iff u p).mp e)), State.countPort, modPort_ports]
      split
      next e => subst e; rw [if_pos hs, if_neg hr]; rfl
      · rfl
  · rw [if_neg (fun e => hs (hcond.mp e))]
    split
    next e => subst e; rw [if_neg hs]
    · rfl

theorem syncStep_synced (s u : State) (g : BufId → Cell) (r : PartRec) (n : Half) (p : Port) (q : PortState) :
    SyncStep s r n p q (q.synced (controlCell u) g r n p) := by
  unfold PortState.synced
  refine ⟨fun h hroom => ?_, fun h hfull => ?_, fun h => if_neg (by exact h)⟩
  · rw [if_pos (by exact h), if_pos hroom]
    exact .append (by simp) h.2.2 u g
  · rw [if_pos (by exact h), if_neg (by omega)]
    exact ⟨by simp [PortState.countSkip], fun _ => rfl, fun _ _ _ _ => nofun⟩

theorem placeSyncs_ports (s u : State) (p : Port) :
    SyncStep s u.part u.pt.period p u.ports[p] (allPorts.foldl placeSync u).ports[p] := by
  have h := foldl_ports placeSync
    (fun p q => q.synced (controlCell u) (fun b => u.pool[b].cell) u.part u.pt.period p)
    (fun t => t.part = u.part ∧ t.pt = u.pt ∧ t.pool = u.pool ∧ t.me.slots = u.me.slots)
    (fun t p ht => by simpa [State.part] using ht) (fun t p ht p' => ?_) allPorts u allPorts_nodup ⟨rfl, rfl, rfl, rfl⟩ p
  · rw [h, if_pos (mem_allPorts p)]
    exact syncStep_synced ..
  · obtain ⟨hpart, hpt, hpool, hslots⟩ := ht
    rw [placeSync_ports, hpart, hpt, controlCell_congr hslots]
    simp only [hpool]

/-! ### The notice sent (R183) -/

/-- The notice that ME sends from a state, aged already. -/
def noticeToSend (u : State) : Option Notice :=
  if u.me.claim.holder ≠ none ∧ u.enabled u.me.claim.port = true ∧ u.ports[u.me.claim.port].link = .up ∧
    u.ports[u.me.claim.port].control.length < 4 then u.me.notices.find? (noticeDue u.part.resend)
  else none

theorem sendNotice_none {u : State} (h : noticeToSend u = none) : sendNotice u = u := by
  unfold sendNotice
  split
  next hh hn =>
    refine if_neg (fun hc => ?_)
    rw [Bool.and_eq_true, reachable_iff, controlRoom_iff] at hc
    rw [noticeToSend, if_pos ⟨by rw [hh]; nofun, hc.1.1, hc.1.2, hc.2⟩, hn] at h
    cases h
  · rfl

theorem sendNotice_some {u : State} {n : Notice} (h : noticeToSend u = some n) : sendNotice u =
    appendControl u.me.claim.port
      (.notice { notice := n, streamId := u.me.claim.noticeId, period := u.pt.period, overflow := u.me.overflow })
      (u.modMe (fun m => { m with notices := markSent u.part.resend m.notices, overflow := false })) := by
  unfold noticeToSend at h
  split at h
  next hc =>
    obtain ⟨hh, he, hup, hroom⟩ := hc
    obtain ⟨tag, ht⟩ := Option.ne_none_iff_exists'.mp hh
    unfold sendNotice
    simp only [ht, h]
    exact if_pos (by rw [Bool.and_eq_true, reachable_iff, controlRoom_iff]; exact ⟨⟨he, hup⟩, hroom⟩)
  · cases h

/-- A port before and after the sending, of a holder's port `h` or none. -/
def NoticeStep (s : State) (r : PartRec) (notified : Prop) (p : Port) (q q' : PortState) : Prop :=
  q' = q ∨ (notified ∧ inPortList r.portEnable p = true ∧ q.link = .up ∧ q.control.length < 4 ∧
    ∃ c, Grew s q q' [.notice c] q.counters.syncSkip)

theorem ageNotices_ports (u : State) : (ageNotices u).ports = u.ports := rfl

theorem sendNotice_ports (s u : State) (p : Port) :
    NoticeStep s u.part (u.me.claim.holder ≠ none ∧ u.me.claim.port = p) p u.ports[p]
      (sendNotice (ageNotices u)).ports[p] := by
  rcases hn : noticeToSend (ageNotices u) with _ | n
  · rw [sendNotice_none hn]
    exact .inl rfl
  · rw [sendNotice_some hn, appendControl_ports]
    split
    next e =>
      unfold noticeToSend at hn
      split at hn
      next hc =>
        obtain ⟨hh, he, hup, hroom⟩ := hc
        subst e
        exact .inr ⟨⟨hh, rfl⟩, he, hup, hroom, _, .append (by simp) hup _ _⟩
      · cases hn
    · exact .inl rfl

/-! ### The first part: the swap at the ports (R155) -/

theorem runActs_cons (w : Swap) (a : BoundaryAct) (l : List BoundaryAct) (s : State) :
    runActs w (a :: l) s = runActs w l (boundaryAct w s a) := rfl

/-- The actions other than a port's own, the SYNC cells and the sending reach no port, no buffer and no response slot. -/
theorem boundaryAct_quiet {w : Swap} {u : State} {a : BoundaryAct} (hp : ∀ p, a ≠ .port p) (hs : a ≠ .syncOut)
    (hn : a ≠ .send) : (boundaryAct w u a).ports = u.ports ∧ (boundaryAct w u a).pool = u.pool ∧
    (boundaryAct w u a).me.slots = u.me.slots := by
  cases a <;> simp only [boundaryAct]
  case port p => exact absurd rfl (hp p)
  case syncOut => exact absurd rfl hs
  case send => exact absurd rfl hn
  case lease => simp
  all_goals split <;> simp

/-- Port `p` once it has followed a swap, if there is one (R155). -/
def State.followed (s : State) (p : Port) : PortState :=
  s.ports[p].followed (inPortList s.part.portEnable p) (inPortList s.nextPart.portEnable p)

theorem PortState.followed_same (b : Bool) (q : PortState) : q.followed b b = q := by cases b <;> rfl

/-- The coming swap takes port `p` from UP (R155). -/
def swapDrops (s : State) (p : Port) : Bool :=
  s.banks.state == .armed && inPortList s.part.portEnable p && !inPortList s.nextPart.portEnable p
    && s.ports[p].link == .up

theorem swapDrops_iff (s : State) (p : Port) : swapDrops s p = true ↔ s.banks.state = .armed ∧ SwapDrops s p := by
  simp only [swapDrops, SwapDrops, Bool.and_eq_true, Bool.not_eq_true', beq_iff_eq, and_assoc]
  refine and_congr_right fun ha => ?_
  rw [nextPart_of_armed ha]
  rfl

theorem boundaryAct_port_ports {s u : State} (p p' : Port) (hpart : u.part = s.nextPart)
    (hp : u.ports[p] = s.ports[p]) : (boundaryAct (swapOf s) u (.port p)).ports[p'] =
      if p' = p then s.followed p else u.ports[p'] := by
  have hnow : u.enabled p = inPortList s.nextPart.portEnable p := by rw [State.enabled, hpart]
  by_cases ha : s.banks.state = .armed
  · simp only [boundaryAct_port_swap u p ((swapOf_taken s).mpr ha), followPortEnable_ports, hnow]
    split
    next e => subst e; rw [hp]; rfl
    · rfl
  · simp only [boundaryAct_port_noSwap u p (fun e => ha ((swapOf_taken s).mp e))]
    split
    next e =>
      subst e
      rw [hp, State.followed, nextPart_of_not_armed ha, PortState.followed_same]
    · rfl

/-- A port dropped from UP returns its entries; any other act of a port returns nothing. -/
theorem boundaryAct_port_returned {s u : State} (p : Port) (hpart : u.part = s.nextPart) (hp : u.ports[p] = s.ports[p]) :
    (swapDrops s p = true → EntriesReturned s.ports[p] u (boundaryAct (swapOf s) u (.port p))) ∧
    (swapDrops s p = false → (boundaryAct (swapOf s) u (.port p)).pool = u.pool ∧
      (boundaryAct (swapOf s) u (.port p)).me.slots = u.me.slots) := by
  have hnow : u.enabled p = inPortList s.nextPart.portEnable p := by rw [State.enabled, hpart]
  by_cases ha : s.banks.state = .armed
  · rw [boundaryAct_port_swap u p ((swapOf_taken s).mpr ha)]
    have hold : (swapOf s).old = s.part := rfl
    have hdrop : swapDrops s p = ((inPortList s.part.portEnable p && !inPortList s.nextPart.portEnable p)
        && s.ports[p].link == .up) := by simp [swapDrops, ha]
    unfold followPortEnable
    rw [hold, hnow, hp, hdrop]
    by_cases hout : (inPortList s.part.portEnable p && !inPortList s.nextPart.portEnable p) = true
    · rw [if_pos hout, hout]
      rcases hl : s.ports[p].link with _ | _ | _
      · exact ⟨nofun, fun _ => ⟨rfl, rfl⟩⟩
      · exact ⟨nofun, fun _ => ⟨rfl, rfl⟩⟩
      · refine ⟨fun _ => ?_, nofun⟩
        rw [← hp]
        exact (dropLink_returned p .down u).congr rfl (by simp [queueLink])
    · rw [if_neg hout, Bool.eq_false_iff.mpr hout]
      refine ⟨nofun, fun _ => ?_⟩
      split <;> exact ⟨rfl, rfl⟩
  · rw [boundaryAct_port_noSwap u p (fun e => ha ((swapOf_taken s).mp e))]
    exact ⟨fun h => absurd ((swapDrops_iff s p).mp h).1 ha, fun _ => ⟨rfl, rfl⟩⟩

/-- The references to a buffer that one action returns. -/
def returnedRefs (s : State) (b : BufId) (a : BoundaryAct) : Nat :=
  match a with
  | .port p => if swapDrops s p then s.ports[p].data.count b else 0
  | .commitApplied | .reevaluate | .timingLoss | .lease | .silent | .syncOut | .send => 0

/-- One action frees the slot. -/
def returnsSlot (s : State) (r : RespId) (a : BoundaryAct) : Prop :=
  ∃ p, a = .port p ∧ swapDrops s p = true ∧ ControlEntry.response r ∈ s.ports[p].control

/-- A list of actions before the SYNC cells and the sending: each port follows the swap, and the ports dropped return
their entries. -/
theorem runActs_follow {s : State} : ∀ (l : List BoundaryAct) (u : State), l.Nodup →
    (∀ a ∈ l, a ≠ .syncOut ∧ a ≠ .send) → u.part = s.nextPart →
    (∀ p : Port, u.ports[p] = if BoundaryAct.port p ∈ l then s.ports[p] else s.followed p) →
    (∀ p : Port, (runActs (swapOf s) l u).ports[p] = s.followed p) ∧
    (∀ b : BufId, (runActs (swapOf s) l u).pool[b].cell = u.pool[b].cell ∧
      (runActs (swapOf s) l u).pool[b].refs = u.pool[b].refs - (l.map (returnedRefs s b)).sum) ∧
    ∀ r : RespId, ((∃ a ∈ l, returnsSlot s r a) → (runActs (swapOf s) l u).me.slots[r] = none) ∧
      ((∀ a ∈ l, ¬ returnsSlot s r a) → (runActs (swapOf s) l u).me.slots[r] = u.me.slots[r])
  | [], u, _, _, _, hports => by
    refine ⟨fun p => ?_, fun b => ⟨rfl, rfl⟩, fun r => ⟨fun ⟨a, ha, _⟩ => absurd ha List.not_mem_nil, fun _ => rfl⟩⟩
    rw [← if_neg (c := BoundaryAct.port p ∈ []) (t := s.ports[p]) (e := s.followed p) List.not_mem_nil]
    exact hports p
  | a :: l, u, hnodup, hall, hpart, hports => by
    obtain ⟨ha, hnodup'⟩ := List.nodup_cons.mp hnodup
    obtain ⟨hsync, hsend⟩ := hall a (List.mem_cons_self ..)
    have hpart' := (boundaryAct_part (swapOf s) u a).trans hpart
    have hall' := fun x hx => hall x (List.mem_cons_of_mem a hx)
    by_cases hport : ∃ p, a = .port p
    · obtain ⟨p, rfl⟩ := hport
      have hp : u.ports[p] = s.ports[p] := by rw [hports p, if_pos (List.mem_cons_self ..)]
      obtain ⟨hdrop, hkeep⟩ := boundaryAct_port_returned p hpart hp
      obtain ⟨ihports, ihpool, ihslots⟩ := runActs_follow l (boundaryAct (swapOf s) u (.port p)) hnodup' hall' hpart'
        (fun p' => by
          rw [boundaryAct_port_ports p p' hpart hp]
          by_cases e : p' = p
          · subst e
            rw [if_pos rfl, if_neg ha]
          · rw [if_neg e]
            simp only [hports p', List.mem_cons, BoundaryAct.port.injEq, e, false_or])
      refine ⟨ihports, fun b => ?_, fun r => ?_⟩
      · rw [runActs_cons, (ihpool b).1, (ihpool b).2, List.map_cons, List.sum_cons, ← Nat.sub_sub]
        cases hd : swapDrops s p
        · simp only [returnedRefs, hd, Bool.false_eq_true, if_false, (hkeep hd).1, Nat.sub_zero]
          exact ⟨trivial, trivial⟩
        · simp only [returnedRefs, hd, if_true, ((hdrop hd).1 b).1, ((hdrop hd).1 b).2]
          exact ⟨trivial, trivial⟩
      · rw [runActs_cons]
        refine ⟨fun ⟨a, hmem, ha⟩ => ?_, fun hn => ?_⟩
        · by_cases hl : ∃ a ∈ l, returnsSlot s r a
          · exact (ihslots r).1 hl
          · rw [(ihslots r).2 (fun x hx hx' => hl ⟨x, hx, hx'⟩)]
            rcases List.mem_cons.mp hmem with rfl | hmem
            · obtain ⟨p', e, hd, hr⟩ := ha
              cases e
              rw [(hdrop hd).2 r, if_pos hr]
            · exact absurd ⟨a, hmem, ha⟩ hl
        · rw [(ihslots r).2 (fun x hx => hn x (List.mem_cons_of_mem _ hx))]
          cases hd : swapDrops s p
          · simp only [(hkeep hd).2]
          · rw [(hdrop hd).2 r, if_neg]
            exact fun hr => hn _ (List.mem_cons_self ..) ⟨p, rfl, hd, hr⟩
    · have hne : ∀ p, a ≠ .port p := fun p e => hport ⟨p, e⟩
      obtain ⟨e1, e2, e3⟩ := boundaryAct_quiet (w := swapOf s) (u := u) hne hsync hsend
      obtain ⟨ihports, ihpool, ihslots⟩ := runActs_follow l (boundaryAct (swapOf s) u a) hnodup' hall' hpart' (fun p => by
        simp only [e1, hports p, List.mem_cons, (hne p).symm, false_or])
      have hcost : ∀ b, returnedRefs s b a = 0 := fun b => by
        cases a <;> first | rfl | exact absurd rfl (hne _)
      have hslot : ∀ r, ¬ returnsSlot s r a := fun r ⟨p, e, _⟩ => hne p e
      refine ⟨ihports, fun b => ?_, fun r => ?_⟩
      · rw [runActs_cons, (ihpool b).1, (ihpool b).2, List.map_cons, List.sum_cons, hcost, Nat.zero_add]
        simp only [e2]
        exact ⟨trivial, trivial⟩
      · rw [runActs_cons]
        have hih := ihslots r
        simp only [e3] at hih
        refine ⟨fun ⟨x, hmem, hx⟩ => hih.1 ?_, fun hn => hih.2 (fun x hx => hn x (List.mem_cons_of_mem _ hx))⟩
        rcases List.mem_cons.mp hmem with rfl | hmem
        · exact absurd hx (hslot r)
        · exact ⟨x, hmem, hx⟩

/-! ### The other parts -/

/-- The lease and the silent check reach no port, no buffer and no slot. -/
theorem runActs_trailing {w : Swap} {l : List BoundaryAct} (h : ∀ a ∈ l, trailing a) (u : State) :
    (runActs w l u).ports = u.ports ∧ (runActs w l u).pool = u.pool ∧ (runActs w l u).me.slots = u.me.slots := by
  induction l generalizing u with
  | nil => exact ⟨rfl, rfl, rfl⟩
  | cons a l ih =>
    rw [runActs_cons]
    obtain ⟨i1, i2, i3⟩ := ih (fun x hx => h x (List.mem_cons_of_mem a hx)) (boundaryAct w u a)
    have ha := h a (List.mem_cons_self ..)
    obtain ⟨e1, e2, e3⟩ := boundaryAct_quiet (w := w) (u := u) (a := a) (by rcases ha with rfl | rfl <;> simp)
      (by rcases ha with rfl | rfl <;> simp) (by rcases ha with rfl | rfl <;> simp)
    exact ⟨i1.trans e1, i2.trans e2, i3.trans e3⟩

theorem runActs_part_pt (w : Swap) (l : List BoundaryAct) (u : State) :
    (runActs w l u).part = u.part ∧ (runActs w l u).pt = u.pt :=
  foldl_keeps (fun t : State => t.part = u.part ∧ t.pt = u.pt) _
    (fun t a ht => ⟨(boundaryAct_part w t a).trans ht.1, by simpa using ht.2⟩) l u ⟨rfl, rfl⟩

/-! ### The claim (R171) -/

/-- The lease count ends the claim. -/
def Claim.ends (c : Claim) : Bool := c.holder.isSome && decide (c.lease ≤ 1)

/-- The claim record after the lease count. -/
def Claim.counted (c : Claim) : Claim :=
  if c.ends then { c with holder := none, lease := 0 }
  else if c.holder.isSome then { c with lease := c.lease - 1 } else c

theorem countLease_claim (u : State) : (countLease u).me.claim = u.me.claim.counted ∧
    (countLease u).me.cache = if u.me.claim.ends then none else u.me.cache := by
  unfold countLease Claim.counted Claim.ends
  rcases hh : u.me.claim.holder with _ | tag
  · exact ⟨rfl, rfl⟩
  · dsimp only
    by_cases hl : u.me.claim.lease ≤ 1
    · rw [if_pos (by exact Nat.sub_eq_zero_of_le hl)]
      simp [expireClaim, hl]
    · rw [if_neg (by exact fun e => hl (Nat.sub_eq_zero_iff_le.mp e))]
      simp [hl, hh]

theorem sendNotice_claim (u : State) : (sendNotice u).me.claim = u.me.claim ∧ (sendNotice u).me.cache = u.me.cache := by
  rcases hn : noticeToSend u with _ | n
  · rw [sendNotice_none hn]
    exact ⟨rfl, rfl⟩
  · rw [sendNotice_some hn]
    simp

theorem boundaryAct_claim {w : Swap} {u : State} {a : BoundaryAct} (h : a ≠ .lease) :
    (boundaryAct w u a).me.claim = u.me.claim ∧ (boundaryAct w u a).me.cache = u.me.cache := by
  cases a <;> simp only [boundaryAct]
  case lease => exact absurd rfl h
  case syncOut =>
    exact foldl_keeps (fun t : State => t.me.claim = u.me.claim ∧ t.me.cache = u.me.cache) _
      (fun t p ht => by simpa using ht) _ _ ⟨rfl, rfl⟩
  case send => exact sendNotice_claim (ageNotices u)
  all_goals split <;> simp

theorem runActs_claim_none {w : Swap} {l : List BoundaryAct} (h : .lease ∉ l) (u : State) :
    (runActs w l u).me.claim = u.me.claim ∧ (runActs w l u).me.cache = u.me.cache := by
  induction l generalizing u with
  | nil => exact ⟨rfl, rfl⟩
  | cons a l ih =>
    obtain ⟨h1, h2⟩ := boundaryAct_claim (w := w) (u := u) (fun e => h (e ▸ List.mem_cons_self ..))
    obtain ⟨i1, i2⟩ := ih (fun hm => h (List.mem_cons_of_mem a hm)) (boundaryAct w u a)
    exact ⟨i1.trans h1, i2.trans h2⟩

theorem runActs_claim {w : Swap} : ∀ {l : List BoundaryAct} (u : State), l.Nodup → .lease ∈ l →
    (runActs w l u).me.claim = u.me.claim.counted ∧
    (runActs w l u).me.cache = if u.me.claim.ends then none else u.me.cache
  | [], _, _, h => absurd h List.not_mem_nil
  | a :: l, u, hnodup, hmem => by
    obtain ⟨ha, hnodup⟩ := List.nodup_cons.mp hnodup
    rw [runActs_cons]
    by_cases e : a = .lease
    · subst e
      obtain ⟨h1, h2⟩ := runActs_claim_none (w := w) ha (boundaryAct w u .lease)
      obtain ⟨h3, h4⟩ := countLease_claim u
      exact ⟨h1.trans h3, h2.trans h4⟩
    · obtain ⟨h1, h2⟩ := boundaryAct_claim (w := w) (u := u) e
      rw [← h1, ← h2]
      exact runActs_claim _ hnodup ((List.mem_cons.mp hmem).resolve_left (Ne.symm e))

theorem Claim.counted_port (c : Claim) : c.counted.port = c.port ∧ c.counted.noticeId = c.noticeId := by
  unfold Claim.counted
  split
  · exact ⟨rfl, rfl⟩
  · split <;> exact ⟨rfl, rfl⟩

theorem Claim.counted_holder (c : Claim) : c.counted.holder = if c.ends then none else c.holder := by
  unfold Claim.counted
  split
  · rfl
  · split <;> rfl

/-! ### The whole boundary -/

theorem enterPeriod_part (k : BoundaryKind) (s : State) : (enterPeriod k s).part = s.nextPart := by
  rw [← afterSwap_part]
  simp [State.part]

theorem enterPeriod_pt (k : BoundaryKind) (s : State) : (enterPeriod k s).pt = beginPeriod k s.nextPart s.pt := by
  simp [afterSwap_part]

section
variable {k : BoundaryKind} {sch A B C : List BoundaryAct} {x y : BoundaryAct} {s : State}

theorem Cut.nodup (h : Cut (effectiveSchedule sch) A B C x y) : (A ++ x :: B).Nodup := by
  have hn := (effectiveSchedule_orderly sch).1
  rw [h.eq] at hn
  have hsub : (A ++ x :: B).Sublist (A ++ x :: (B ++ y :: C)) :=
    ((List.sublist_append_left B (y :: C)).cons_cons x).append_left A
  exact hn.sublist hsub

/-- The lease is counted before the sending. -/
theorem Cut.lease_mem (h : Cut (effectiveSchedule sch) A B C x y) :
    .lease ∈ A ++ x :: B ∧ (x = .send → .lease ∈ A) := by
  have hmem := mem_effectiveSchedule sch .lease
  rw [h.eq] at hmem
  have hx : BoundaryAct.lease ≠ x := by rcases h.acts with ⟨e, -⟩ | ⟨e, -⟩ <;> rw [e] <;> nofun
  have hy : BoundaryAct.lease ≠ y := by rcases h.acts with ⟨-, e⟩ | ⟨-, e⟩ <;> rw [e] <;> nofun
  have hC : BoundaryAct.lease ∉ C := fun hm => nomatch h.after _ hm
  simp only [List.mem_append, List.mem_cons, hx, hy, hC, false_or, or_false] at hmem ⊢
  exact ⟨hmem, fun e => hmem.resolve_right (fun hm => nomatch h.sent e _ hm)⟩

theorem Cut.swap_port (h : Cut (effectiveSchedule sch) A B C x y) (p : Port) : .port p ∈ A :=
  h.swap _ (by revert p; decide)

theorem Cut.follow (h : Cut (effectiveSchedule sch) A B C x y) (k : BoundaryKind) (s : State) :
    (∀ p : Port, (runActs (swapOf s) A (enterPeriod k s)).ports[p] = s.followed p) ∧
    (∀ b : BufId, (runActs (swapOf s) A (enterPeriod k s)).pool[b].cell = s.pool[b].cell ∧
      (runActs (swapOf s) A (enterPeriod k s)).pool[b].refs = s.pool[b].refs - (A.map (returnedRefs s b)).sum) ∧
    ∀ r : RespId, ((∃ a ∈ A, returnsSlot s r a) → (runActs (swapOf s) A (enterPeriod k s)).me.slots[r] = none) ∧
      ((∀ a ∈ A, ¬ returnsSlot s r a) →
        (runActs (swapOf s) A (enterPeriod k s)).me.slots[r] = s.me.slots[r]) := by
  have hA : A.Nodup := h.nodup.sublist (List.sublist_append_left A _)
  have hports : (enterPeriod k s).ports = s.ports := by simp
  have hf := runActs_follow A (enterPeriod k s) hA h.before (enterPeriod_part k s)
    (fun p => by simp only [hports, if_pos (h.swap_port p)])
  simpa only [enterPeriod_frame] using hf

theorem boundaryAct_syncOut_ports (w : Swap) (s u : State) (p : Port) :
    SyncStep s u.part u.pt.period p u.ports[p] (boundaryAct w u .syncOut).ports[p] := placeSyncs_ports s u p

theorem boundaryAct_send_ports (w : Swap) (s u : State) (p : Port) :
    NoticeStep s u.part (u.me.claim.holder ≠ none ∧ u.me.claim.port = p) p u.ports[p]
      (boundaryAct w u .send).ports[p] := sendNotice_ports s u p

theorem NoticeStep.imp {s : State} {r : PartRec} {n n' : Prop} {p : Port} {q q' : PortState}
    (h : NoticeStep s r n p q q') (hn : n → n') : NoticeStep s r n' p q q' :=
  h.imp_right (fun ⟨h1, h2⟩ => ⟨hn h1, h2⟩)

theorem notified_of_counted {c : Claim} {p : Port} (h : c.counted.holder ≠ none ∧ c.counted.port = p) :
    c.holder ≠ none ∧ c.port = p := by
  rw [c.counted_holder, c.counted_port.1] at h
  refine ⟨fun e => h.1 ?_, h.2⟩
  rw [e, ite_self]

end

/-- A port over a boundary or step: it follows the swap, then come its SYNC cell and the sending, in either order. -/
theorem takeBoundary_port (k : BoundaryKind) (sch : List BoundaryAct) (s : State) (p : Port) :
    ∃ q, (SyncStep s s.nextPart (takeBoundary k sch s).pt.period p (s.followed p) q ∧
        NoticeStep s s.nextPart (s.me.claim.holder ≠ none ∧ s.me.claim.port = p) p q (takeBoundary k sch s).ports[p]) ∨
      (NoticeStep s s.nextPart (s.me.claim.holder ≠ none ∧ s.me.claim.port = p) p (s.followed p) q ∧
        SyncStep s s.nextPart (takeBoundary k sch s).pt.period p q (takeBoundary k sch s).ports[p]) := by
  obtain ⟨A, B, C, x, y, h⟩ := effectiveSchedule_cut sch
  have hperiod : (takeBoundary k sch s).pt = (enterPeriod k s).pt := by rw [takeBoundary_pt, enterPeriod_pt]
  rw [hperiod]
  rw [takeBoundary_cut h]
  have hports := (h.follow k s).1 p
  have hme : (enterPeriod k s).me = s.me := by simp
  generalize hu1 : runActs (swapOf s) A (enterPeriod k s) = u1 at hports
  obtain ⟨hpart1, hpt1⟩ : u1.part = s.nextPart ∧ u1.pt = (enterPeriod k s).pt := by
    rw [← hu1, (runActs_part_pt ..).1, (runActs_part_pt ..).2, enterPeriod_part]
    exact ⟨rfl, rfl⟩
  generalize hu2 : boundaryAct (swapOf s) u1 x = u2
  have hpart2 : u2.part = s.nextPart := by rw [← hu2, boundaryAct_part, hpart1]
  have hpt2 : u2.pt = (enterPeriod k s).pt := by rw [← hu2, ← hpt1]; simp
  generalize hu3 : runActs (swapOf s) B u2 = u3
  obtain ⟨hports3, -⟩ : u3.ports = u2.ports ∧ _ := hu3 ▸ runActs_trailing h.between u2
  obtain ⟨hpart3, hpt3⟩ : u3.part = s.nextPart ∧ u3.pt = (enterPeriod k s).pt := by
    rw [← hu3, (runActs_part_pt ..).1, (runActs_part_pt ..).2, hpart2, hpt2]
    exact ⟨rfl, rfl⟩
  have hlast := (runActs_trailing (w := swapOf s) (fun a ha => .inr (h.after a ha)) (boundaryAct (swapOf s) u3 y)).1
  simp only [hlast]
  refine ⟨u2.ports[p], ?_⟩
  rcases h.acts with ⟨rfl, rfl⟩ | ⟨rfl, rfl⟩
  · left
    have hclaim : u3.me.claim = s.me.claim.counted := by
      have hrun : u3 = runActs (swapOf s) (A ++ .syncOut :: B) (enterPeriod k s) := by
        rw [← hu3, ← hu2, ← hu1, runActs, runActs, runActs, List.foldl_append, List.foldl_cons]
      rw [hrun, (runActs_claim _ h.nodup h.lease_mem.1).1, hme]
    constructor
    · rw [← hports, ← hu2, ← hpart1, ← hpt1]
      exact boundaryAct_syncOut_ports ..
    · have hsend := boundaryAct_send_ports (swapOf s) s u3 p
      rw [hpart3, hclaim] at hsend
      simp only [hports3] at hsend
      exact hsend.imp notified_of_counted
  · right
    have hclaim : u1.me.claim = s.me.claim.counted := by
      rw [← hu1, (runActs_claim _ (h.nodup.sublist (List.sublist_append_left A _)) (h.lease_mem.2 rfl)).1, hme]
    constructor
    · have hsend := boundaryAct_send_ports (swapOf s) s u1 p
      rw [hpart1, hclaim, hports, hu2] at hsend
      exact hsend.imp notified_of_counted
    · have hsync := boundaryAct_syncOut_ports (swapOf s) s u3 p
      rw [hpart3, hpt3] at hsync
      simp only [hports3] at hsync
      exact hsync

/-- The pool and the slots over a boundary or step: the ports dropped from UP return their entries. -/
theorem takeBoundary_returned (k : BoundaryKind) (sch : List BoundaryAct) (s : State) :
    (∀ b : BufId, (takeBoundary k sch s).pool[b].cell = s.pool[b].cell ∧ (takeBoundary k sch s).pool[b].refs =
      s.pool[b].refs - (allPorts.map (fun p => if swapDrops s p then s.ports[p].data.count b else 0)).sum) ∧
    ∀ r : RespId,
      ((∃ p : Port, swapDrops s p = true ∧ ControlEntry.response r ∈ s.ports[p].control) →
        (takeBoundary k sch s).me.slots[r] = none) ∧
      ((∀ p : Port, swapDrops s p = true → ControlEntry.response r ∉ s.ports[p].control) →
        (takeBoundary k sch s).me.slots[r] = s.me.slots[r]) := by
  obtain ⟨A, B, C, x, y, h⟩ := effectiveSchedule_cut sch
  obtain ⟨-, hpool, hslots⟩ := h.follow k s
  have hown : ∀ (u : State) (a : BoundaryAct), a = .syncOut ∨ a = .send →
      (boundaryAct (swapOf s) u a).pool = u.pool ∧ (boundaryAct (swapOf s) u a).me.slots = u.me.slots := by
    rintro u a (rfl | rfl)
    · exact foldl_keeps (fun t : State => t.pool = u.pool ∧ t.me.slots = u.me.slots) _
        (fun t p ht => by simpa using ht) _ _ ⟨rfl, rfl⟩
    · simp [boundaryAct, ageNotices]
  have hx : x = .syncOut ∨ x = .send := h.acts.imp (·.1) (·.1)
  have hy : y = .syncOut ∨ y = .send := h.acts.symm.imp (·.2) (·.2)
  have hlast : (takeBoundary k sch s).pool = (runActs (swapOf s) A (enterPeriod k s)).pool ∧
      (takeBoundary k sch s).me.slots = (runActs (swapOf s) A (enterPeriod k s)).me.slots := by
    rw [takeBoundary_cut h]
    obtain ⟨-, e1, f1⟩ := runActs_trailing (w := swapOf s) (fun a ha => .inr (h.after a ha)) (boundaryAct (swapOf s)
      (runActs (swapOf s) B (boundaryAct (swapOf s) (runActs (swapOf s) A (enterPeriod k s)) x)) y)
    obtain ⟨-, e2, f2⟩ := runActs_trailing (w := swapOf s) h.between
      (boundaryAct (swapOf s) (runActs (swapOf s) A (enterPeriod k s)) x)
    rw [e1, f1, (hown _ y hy).1, (hown _ y hy).2, e2, f2, (hown _ x hx).1, (hown _ x hx).2]
    exact ⟨rfl, rfl⟩
  obtain ⟨epool, eslots⟩ := hlast
  have hsum : ∀ b, (A.map (returnedRefs s b)).sum =
      (allPorts.map (fun p => if swapDrops s p then s.ports[p].data.count b else 0)).sum := by
    intro b
    have htotal : ((effectiveSchedule sch).map (returnedRefs s b)).sum = (A.map (returnedRefs s b)).sum := by
      have hB : (B.map (returnedRefs s b)).sum = 0 := List.sum_eq_zero (fun n hn => by
        obtain ⟨a, ha, rfl⟩ := List.mem_map.mp hn
        rcases h.between a ha with rfl | rfl <;> rfl)
      have hC : (C.map (returnedRefs s b)).sum = 0 := List.sum_eq_zero (fun n hn => by
        obtain ⟨a, ha, rfl⟩ := List.mem_map.mp hn
        rw [h.after a ha]; rfl)
      have h0 : ∀ z, z = .syncOut ∨ z = .send → returnedRefs s b z = 0 := by rintro z (rfl | rfl) <;> rfl
      rw [h.eq]
      simp [hB, hC, h0 x hx, h0 y hy]
    rw [← htotal, ((effectiveSchedule_perm sch).map _).sum_eq]
    simp [standardSchedule, swapActs, returnedRefs, allPorts]
  refine ⟨fun b => ?_, fun r => ⟨fun ⟨p, hd, hr⟩ => ?_, fun hn => ?_⟩⟩
  · simp only [epool, hpool b, hsum b]
    exact ⟨trivial, trivial⟩
  · simp only [eslots]
    exact (hslots r).1 ⟨.port p, h.swap_port p, p, rfl, hd, hr⟩
  · simp only [eslots]
    exact (hslots r).2 (fun a _ ⟨p, _, hd, hr⟩ => hn p hd hr)

end Sys2Proof.Machine
end

section
/-!
What a boundary or step leaves of the ports (R145, R153, R155, R158), stated of the ports before it.
-/

namespace Sys2Proof.Machine

/-! ### The SYNC cell and the notice on one port -/

/-- A port with a SYNC cell to take: with room the cell comes, a notice before or after it where it finds room too; the last
place goes to either; a full queue takes neither. -/
def SyncAndNotice (s : State) (e : ControlEntry) (notified : Prop) (q q' : PortState) (l : List ControlEntry)
    (skip : Counter) : Prop :=
  Grew s q q' l skip ∧
  ((q.control.length < 4 ∧ l = [e] ∧ skip = q.counters.syncSkip) ∨
    (q.control.length ≤ 2 ∧ notified ∧ (∃ n, l = [e, .notice n] ∨ l = [.notice n, e]) ∧ skip = q.counters.syncSkip) ∨
    (q.control.length = 3 ∧ notified ∧ (∃ n, l = [.notice n]) ∧ skip = satAdd q.counters.syncSkip 1) ∨
    (4 ≤ q.control.length ∧ l = [] ∧ skip = satAdd q.counters.syncSkip 1))

theorem syncStep_noticeStep {s : State} {r : PartRec} {n : Half} {notified : Prop} {p : Port} {q m q' : PortState}
    (hon : syncsOn r p q) (hsync : SyncStep s r n p q m) (hnotice : NoticeStep s r notified p m q') :
    ∃ l k, SyncAndNotice s (.sync r.syncId n) notified q q' l k := by
  obtain ⟨hroom, hfull, -⟩ := hsync
  by_cases hl : q.control.length < 4
  · have h1 := hroom hon hl
    rcases hnotice with rfl | ⟨hn, -, -, hm, c, h2⟩
    · exact ⟨_, _, h1, .inl ⟨hl, rfl, rfl⟩⟩
    · rw [h1.control, List.length_append, List.length_singleton] at hm
      refine ⟨_, _, h1.trans h2, .inr (.inl ⟨by omega, hn, ⟨c, .inl rfl⟩, h1.skips⟩)⟩
  · have h1 := hfull hon (by omega)
    rcases hnotice with rfl | ⟨hn, -, -, hm, c, h2⟩
    · exact ⟨_, _, h1, .inr (.inr (.inr ⟨by omega, rfl, rfl⟩))⟩
    · rw [h1.control, List.append_nil] at hm
      exact absurd hm hl

theorem noticeStep_syncStep {s : State} {r : PartRec} {n : Half} {notified : Prop} {p : Port} {q m q' : PortState}
    (hon : syncsOn r p q) (hnotice : NoticeStep s r notified p q m) (hsync : SyncStep s r n p m q') :
    ∃ l k, SyncAndNotice s (.sync r.syncId n) notified q q' l k := by
  obtain ⟨hroom, hfull, -⟩ := hsync
  obtain ⟨hout, hen, hup⟩ := hon
  rcases hnotice with rfl | ⟨hn, -, -, hlt, c, h1⟩
  · by_cases hl : m.control.length < 4
    · exact ⟨_, _, hroom ⟨hout, hen, hup⟩ hl, .inl ⟨hl, rfl, rfl⟩⟩
    · exact ⟨_, _, hfull ⟨hout, hen, hup⟩ (by omega), .inr (.inr (.inr ⟨by omega, rfl, rfl⟩))⟩
  · have hlen : m.control.length = q.control.length + 1 := by rw [h1.control, List.length_append, List.length_singleton]
    have hon : syncsOn r p m := ⟨hout, hen, h1.link.trans hup⟩
    by_cases hl : q.control.length ≤ 2
    · refine ⟨_, _, h1.trans (hroom hon (by omega)), .inr (.inl ⟨hl, hn, ⟨c, .inr rfl⟩, h1.skips⟩)⟩
    · refine ⟨_, _, h1.trans (hfull hon (by omega)), .inr (.inr (.inl ⟨by omega, hn, ⟨c, rfl⟩, ?_⟩))⟩
      rw [h1.skips]

/-- A port without a SYNC cell to take: at most a notice. -/
theorem noticeStep_alone {s : State} {r : PartRec} {n : Half} {notified : Prop} {p : Port} {q m q' : PortState}
    (hon : ¬ syncsOn r p q) (h : (SyncStep s r n p q m ∧ NoticeStep s r notified p m q') ∨
      (NoticeStep s r notified p q m ∧ SyncStep s r n p m q')) : NoticeStep s r notified p q q' := by
  rcases h with ⟨⟨-, -, hsync⟩, hnotice⟩ | ⟨hnotice, -, -, hsync⟩
  · rwa [hsync hon] at hnotice
  · have hm : ¬ syncsOn r p m := by
      rcases hnotice with rfl | ⟨-, -, -, -, c, h1⟩
      · exact hon
      · exact fun hs => hon ⟨hs.1, hs.2.1, h1.link.symm.trans hs.2.2⟩
    rwa [hsync hm]

theorem NoticeStep.not_up {s : State} {r : PartRec} {notified : Prop} {p : Port} {q q' : PortState} (hq : q.link ≠ .up)
    (h : NoticeStep s r notified p q q') : q' = q := h.resolve_right (fun h => hq h.2.2.1)

/-- A port with its SYNC cell and the notice, or with at most the notice. -/
theorem takeBoundary_port_cases (k : BoundaryKind) (sch : List BoundaryAct) (s : State) (p : Port) :
    (syncsOn s.nextPart p (s.followed p) → ∃ l skip, SyncAndNotice s
      (.sync s.nextPart.syncId (takeBoundary k sch s).pt.period) (s.me.claim.holder ≠ none ∧ s.me.claim.port = p)
      (s.followed p) (takeBoundary k sch s).ports[p] l skip) ∧
    (¬ syncsOn s.nextPart p (s.followed p) → NoticeStep s s.nextPart
      (s.me.claim.holder ≠ none ∧ s.me.claim.port = p) p (s.followed p) (takeBoundary k sch s).ports[p]) := by
  obtain ⟨q, h⟩ := takeBoundary_port k sch s p
  refine ⟨fun hon => ?_, fun hon => noticeStep_alone hon h⟩
  rcases h with ⟨hsync, hnotice⟩ | ⟨hnotice, hsync⟩
  · exact syncStep_noticeStep hon hsync hnotice
  · exact noticeStep_syncStep hon hnotice hsync

/-- A port that is not UP once it has followed the swap takes nothing. -/
theorem takeBoundary_port_not_up {k : BoundaryKind} {sch : List BoundaryAct} {s : State} {p : Port}
    (h : (s.followed p).link ≠ .up) : (takeBoundary k sch s).ports[p] = s.followed p :=
  ((takeBoundary_port_cases k sch s p).2 (fun hs => h hs.2.2)).not_up h

theorem takeBoundary_port_grew (k : BoundaryKind) (sch : List BoundaryAct) (s : State) (p : Port) :
    ControlGrew s p (s.followed p) (takeBoundary k sch s).ports[p] := by
  obtain ⟨hsync, hnone⟩ := takeBoundary_port_cases k sch s p
  by_cases hon : syncsOn s.nextPart p (s.followed p)
  · obtain ⟨l, k, hg, -⟩ := hsync hon
    exact hg.controlGrew (fun hout => absurd (hon.1.symm.trans hout) nofun)
  · rcases hnone hon with e | ⟨-, -, -, -, c, hg⟩
    · rw [e]
      exact (Grew.refl s _).controlGrew (fun _ => rfl)
    · exact hg.controlGrew (fun _ => rfl)

/-! ### A port that follows a swap (R155) -/

theorem PortState.followed_out {q : PortState} (h : q.link = .up) : q.followed true false = q.dropped .down := by
  simp [PortState.followed, h]

theorem PortState.followed_out_not_up {q : PortState} (h : q.link ≠ .up) :
    q.followed true false = { q with link := .down } := by
  unfold PortState.followed
  rcases hl : q.link with _ | _ | _
  · have hq : q = { q with link := .down } := by rw [← hl]
    exact hq
  · rfl
  · exact absurd hl h

theorem PortState.followed_in (q : PortState) : q.followed false true =
    { q with link := if q.link = .down ∧ q.signal = true then .training else q.link } := rfl

theorem PortState.followed_signal (was now : Bool) (q : PortState) : (q.followed was now).signal = q.signal := by
  unfold PortState.followed
  split
  · split <;> rfl
  · split <;> rfl

/-- A port that the swap does not drop keeps all but its link. -/
theorem PortState.followed_kept {q : PortState} {was now : Bool}
    (h : ¬ (was = true ∧ now = false ∧ q.link = .up)) : ∃ l, q.followed was now = { q with link := l } ∧
      (l = .up ↔ q.link = .up) := by
  cases was <;> cases now
  · exact ⟨q.link, rfl, Iff.rfl⟩
  · refine ⟨_, q.followed_in, ?_⟩
    split
    next hc => simp [hc.1]
    · rfl
  · have hl : q.link ≠ .up := fun e => h ⟨rfl, rfl, e⟩
    exact ⟨_, q.followed_out_not_up hl, iff_of_false nofun hl⟩
  · exact ⟨q.link, rfl, Iff.rfl⟩

theorem followed_of_same {s : State} {p : Port}
    (h : inPortList s.part.portEnable p = inPortList s.nextPart.portEnable p) : s.followed p = s.ports[p] := by
  rw [State.followed, h, PortState.followed_same]

theorem followed_of_not_armed {s : State} (h : s.banks.state ≠ .armed) (p : Port) : s.followed p = s.ports[p] :=
  followed_of_same (by rw [nextPart_of_not_armed h])

theorem followed_of_dropped {s : State} {p : Port} (h : s.banks.state = .armed) (hd : SwapDrops s p) :
    s.followed p = s.ports[p].dropped .down := by
  obtain ⟨hwas, hnow, hup⟩ := hd
  rw [State.followed, nextPart_of_armed h, hnow, show inPortList s.part.portEnable p = true from hwas]
  exact PortState.followed_out hup

theorem followed_of_kept {s : State} {p : Port} (h : s.banks.state = .armed → ¬ SwapDrops s p) :
    ∃ l, s.followed p = { s.ports[p] with link := l } ∧ (l = .up ↔ s.ports[p].link = .up) := by
  by_cases ha : s.banks.state = .armed
  · refine PortState.followed_kept (fun hd => h ha ?_)
    rwa [nextPart_of_armed ha] at hd
  · exact ⟨_, followed_of_not_armed ha p, Iff.rfl⟩

/-! ### The other blocks -/

theorem takeBoundary_group (k : BoundaryKind) (sch : List BoundaryAct) (s : State) (g : GroupId) :
    (takeBoundary k sch s).groups[g] = (enterPeriod k s).groups[g] := by
  simp only [(takeBoundary_frame k sch s).2.1]

theorem followerKept_refl (f : Follower) : FollowerKept f f := rfl

theorem FollowerKept.trans {f f' f'' : Follower} (h : FollowerKept f f') (h' : FollowerKept f' f'') :
    FollowerKept f f'' := by
  unfold FollowerKept at *
  rw [h', h]

theorem followerKept_check (w : Swap) (r : PartRec) (f : Follower) : FollowerKept f (f.check w r) := by
  unfold Follower.check
  split
  · rfl
  · split <;> rfl

theorem followerKept_lose (w : Swap) (f : Follower) : FollowerKept f (f.lose w) := by
  unfold Follower.lose
  split <;> rfl

theorem followerKept_reevaluate (w : Swap) (r : PartRec) (f : Follower) : FollowerKept f (f.reevaluate w r) := by
  unfold Follower.reevaluate
  split
  · split <;> rfl
  · rfl

theorem takeBoundary_followerKept (k : BoundaryKind) (sch : List BoundaryAct) (s : State) :
    FollowerKept s.tf (takeBoundary k sch s).tf := by
  rcases takeBoundary_tf k sch s with e | e <;> rw [e]
  · exact ((followerKept_reevaluate _ _ _).trans (followerKept_lose _ _)).trans (followerKept_check _ _ _)
  · exact ((followerKept_lose _ _).trans (followerKept_reevaluate _ _ _)).trans (followerKept_check _ _ _)

theorem Follower.check_miss (w : Swap) (r : PartRec) (f : Follower) : (f.check w r).miss = f.miss := by
  unfold Follower.check
  split
  · rfl
  · split <;> rfl

/-- Without a swap TF makes its silent check alone. -/
theorem takeBoundary_tf_noSwap {k : BoundaryKind} {sch : List BoundaryAct} {s : State} (h : s.banks.state ≠ .armed) :
    (takeBoundary k sch s).tf = s.tf.check (swapOf s) s.nextPart := by
  have htaken : (swapOf s).taken = false := Bool.eq_false_iff.mpr (fun e => h ((swapOf_taken s).mp e))
  have hlost : (swapOf s).timingLost = false := by simp [swapOf, h]
  have hr : ∀ f : Follower, f.reevaluate (swapOf s) s.nextPart = f := fun f => by simp [Follower.reevaluate, htaken]
  have hl : ∀ f : Follower, f.lose (swapOf s) = f := fun f => by simp [Follower.lose, hlost]
  rcases takeBoundary_tf k sch s with e | e <;> rw [e]
  · rw [hr, hl]
  · rw [hl, hr]

theorem swapDrops_not_armed {s : State} (h : s.banks.state ≠ .armed) (p : Port) : swapDrops s p = false :=
  Bool.eq_false_iff.mpr (fun e => h ((swapDrops_iff s p).mp e).1)

/-- Settles O17. -/
theorem boundaryWithoutSwapFrame : Obligations.BoundaryWithoutSwapFrame := by
  intro s c sch hb hn
  obtain ⟨k, x, he⟩ := exec_begins hb
  have hn' : (s.withCopyAge x).banks.state ≠ .armed := hn
  obtain ⟨hpool, hslots⟩ := takeBoundary_returned k sch (s.withCopyAge x)
  obtain ⟨-, -, hstreams, hbanks, hpending, hreq, hreset⟩ := takeBoundary_frame k sch (s.withCopyAge x)
  have hswap : afterSwap (s.withCopyAge x) = s.withCopyAge x := if_neg hn'
  rw [hswap] at hstreams hbanks
  refine ⟨_, he, fun g => ?_, hstreams, ?_, hpending, ?_, fun p => ?_, hreq, ?_, hreset,
    takeBoundary_followerKept k sch (s.withCopyAge x), ?_⟩
  · rw [takeBoundary_group, enterPeriod_group, if_neg (fun e => hn' e.1)]
    exact ⟨fun hd => if_pos hd, fun hd => if_neg hd⟩
  · refine Vector.ext (fun i hi => ?_)
    have hb := hpool ⟨i, hi⟩
    simp only [swapDrops_not_armed hn', Bool.false_eq_true, if_false, List.map_const', List.sum_replicate, smul_zero,
      Nat.sub_zero] at hb
    exact (Buffer.mk.injEq ..).mpr hb
  · rw [hbanks]
    rfl
  · have hp := takeBoundary_port_grew k sch (s.withCopyAge x) p
    rw [followed_of_not_armed hn' p] at hp
    exact hp
  · refine Vector.ext (fun i hi => ?_)
    exact (hslots ⟨i, hi⟩).2 (fun p hp => absurd ((swapDrops_not_armed hn' p).symm.trans hp) nofun)
  · rw [takeBoundary_tf_noSwap hn', Follower.check_miss]
    rfl

/-- What comes of a SYNC cell and a notice, by the places left in CONTROL. -/
theorem syncAndNotice_lengths {e : ControlEntry} {notified : Prop} {q : PortState} {l : List ControlEntry}
    {skip : Counter}
    (h : (q.control.length < 4 ∧ l = [e] ∧ skip = q.counters.syncSkip) ∨
      (q.control.length ≤ 2 ∧ notified ∧ (∃ n, l = [e, .notice n] ∨ l = [.notice n, e]) ∧ skip = q.counters.syncSkip) ∨
      (q.control.length = 3 ∧ notified ∧ (∃ n, l = [.notice n]) ∧ skip = satAdd q.counters.syncSkip 1) ∨
      (4 ≤ q.control.length ∧ l = [] ∧ skip = satAdd q.counters.syncSkip 1)) :
    (q.control.length < 4 → ¬ notified → l = [e] ∧ skip = q.counters.syncSkip) ∧
    (q.control.length ≤ 2 → notified →
      (l = [e] ∨ ∃ n, l = [e, .notice n] ∨ l = [.notice n, e]) ∧ skip = q.counters.syncSkip) ∧
    (q.control.length = 3 → notified → (l = [e] ∧ skip = q.counters.syncSkip) ∨
      ((∃ n, l = [.notice n]) ∧ skip = satAdd q.counters.syncSkip 1)) ∧
    (4 ≤ q.control.length → l = [] ∧ skip = satAdd q.counters.syncSkip 1) := by
  rcases h with ⟨hlen, hl, hk⟩ | ⟨hlen, hn, hl, hk⟩ | ⟨hlen, hn, hl, hk⟩ | ⟨hlen, hl, hk⟩
  · exact ⟨fun _ _ => ⟨hl, hk⟩, fun _ _ => ⟨.inl hl, hk⟩, fun _ _ => .inl ⟨hl, hk⟩, fun _ => by omega⟩
  · exact ⟨fun _ h => absurd hn h, fun _ _ => ⟨.inr hl, hk⟩, fun _ => by omega, fun _ => by omega⟩
  · exact ⟨fun _ h => absurd hn h, fun _ => by omega, fun _ _ => .inr ⟨hl, hk⟩, fun _ => by omega⟩
  · exact ⟨fun _ => by omega, fun _ => by omega, fun _ => by omega, fun _ => ⟨hl, hk⟩⟩

/-- Settles O23. -/
theorem boundarySendsSyncs : Obligations.BoundarySendsSyncs := by
  intro s c sch hb
  obtain ⟨k, x, he⟩ := exec_begins hb
  refine ⟨_, he, fun p => ?_⟩
  obtain ⟨hsync, hnone⟩ := takeBoundary_port_cases k sch (s.withCopyAge x) p
  refine ⟨fun ⟨hout, hen, hup⟩ => ?_, fun hs hn hsame => ?_, fun hs hd => ?_⟩
  · have hdrop : s.banks.state = .armed → ¬ SwapDrops s p := fun ha ⟨_, hout, _⟩ => by
      rw [nextPart_of_armed ha] at hen
      exact absurd (hen.symm.trans hout) nofun
    obtain ⟨l, hl, hiff⟩ := followed_of_kept (s := s.withCopyAge x) (p := p) hdrop
    have hq : (s.withCopyAge x).followed p = s.ports[p] := by
      have hlup : l = s.ports[p].link := (hiff.mpr hup).trans hup.symm
      rw [hl, hlup]
      rfl
    rw [hq] at hsync
    obtain ⟨l, skip, hg, hcase⟩ := hsync ⟨hout, hen, hup⟩
    refine ⟨l, _, skip, hg.shape, hg.kept, hg.started, ?_⟩
    refine syncAndNotice_lengths hcase
  · have hq := followed_of_same (s := s.withCopyAge x) hsame
    rw [hq] at hnone
    exact (hnone hs).resolve_right (fun h => hn h.1)
  · obtain ⟨link, hl, hiff⟩ := followed_of_kept (s := s.withCopyAge x) (p := p) hd
    rw [hl] at hnone
    have hon : ¬ syncsOn s.nextPart p { s.ports[p] with link := link } :=
      fun ⟨h1, h2, h3⟩ => hs ⟨h1, h2, hiff.mp h3⟩
    rcases hnone hon with e | ⟨hn, -, -, -, n, hg⟩
    · exact ⟨[], s.ports[p].tx, by rw [e, List.append_nil]; rfl, .inl rfl, fun _ => rfl, fun _ _ _ _ => nofun⟩
    · refine ⟨_, _, ?_, .inr ⟨hn, n, rfl⟩, hg.kept, hg.started⟩
      rw [hg.link]
      exact hg.shape

end Sys2Proof.Machine
end

section
/-!
The notices that a boundary or step queues (R125, R141 to R144, R155, R171, R181): a log of them action by action, what
the log holds, and the notice queue that comes of it.
-/

namespace Sys2Proof.Machine

/-! ### A list of notices queued -/

/-- ME once the notices of the list are queued, one after the other. -/
def Management.enqueueAll (l : List (Topic × NoticePayload)) (m : Management) : Management :=
  l.foldl (fun m e => enqueueNotice e.1 e.2 m) m

theorem enqueueAll_append (l l' : List (Topic × NoticePayload)) (m : Management) :
    m.enqueueAll (l ++ l') = (m.enqueueAll l).enqueueAll l' := List.foldl_append

theorem noticesQueued_enqueueAll (l : List (Topic × NoticePayload)) (m : Management) :
    NoticesQueued l m (m.enqueueAll l) := by
  induction l generalizing m with
  | nil => rfl
  | cons e l ih => exact ⟨_, noticeQueued_enqueueNotice e.1 e.2 m, ih _⟩

/-- The notice queue of `m'` is that of `m`. -/
structure SameNotices (m m' : Management) : Prop where
  notices : m'.notices = m.notices
  nextNumber : m'.nextNumber = m.nextNumber
  overflow : m'.overflow = m.overflow

theorem SameNotices.refl (m : Management) : SameNotices m m := ⟨rfl, rfl, rfl⟩

theorem SameNotices.trans {m m' m'' : Management} (h : SameNotices m m') (h' : SameNotices m' m'') :
    SameNotices m m'' :=
  ⟨h'.notices.trans h.notices, h'.nextNumber.trans h.nextNumber, h'.overflow.trans h.overflow⟩

theorem SameNotices.enqueue {m m' : Management} (h : SameNotices m m') (t : Topic) (pl : NoticePayload) :
    SameNotices (enqueueNotice t pl m) (enqueueNotice t pl m') := by
  obtain ⟨h1, h2, h3⟩ := h
  unfold enqueueNotice
  rw [h1, h2]
  split
  · exact ⟨rfl, rfl, h3⟩
  · split
    · exact ⟨rfl, rfl, rfl⟩
    · exact ⟨rfl, rfl, h3⟩

theorem SameNotices.enqueueAll {m m' : Management} (h : SameNotices m m') (l : List (Topic × NoticePayload)) :
    SameNotices (m.enqueueAll l) (m'.enqueueAll l) := by
  induction l generalizing m m' with
  | nil => exact h
  | cons e l ih => exact ih (h.enqueue e.1 e.2)

theorem enqueueAll_frame (l : List (Topic × NoticePayload)) (m : Management) :
    (m.enqueueAll l).requests = m.requests ∧ (m.enqueueAll l).slots = m.slots ∧
    (m.enqueueAll l).resetting = m.resetting ∧ (m.enqueueAll l).claim = m.claim ∧
    (m.enqueueAll l).cache = m.cache := by
  induction l generalizing m with
  | nil => exact ⟨rfl, rfl, rfl, rfl, rfl⟩
  | cons e l ih =>
    obtain ⟨h1, h2, h3, h4, h5⟩ := ih (enqueueNotice e.1 e.2 m)
    obtain ⟨f1, f2, f3, f4, f5⟩ := enqueueNotice_frame e.1 e.2 m
    exact ⟨h1.trans f1, h2.trans f2, h3.trans f3, h4.trans f4, h5.trans f5⟩

/-! ### The log -/

/-- The notice of a change of the timing state (R147). -/
def timingLog (f f' : Follower) : List (Topic × NoticePayload) :=
  if f'.state = f.state then [] else [(.timing, .timing f'.state)]

/-- The notices of one action beside TIMING (R125, R155, R171). -/
def actLog (s : State) (a : BoundaryAct) : List (Topic × NoticePayload) :=
  match a with
  | .commitApplied => if s.banks.state = .armed then [(.commitApplied, .nothing)] else []
  | .port p => if swapDrops s p then [(.link p, .link false)] else []
  | .lease => if s.me.claim.ends then s.me.claim.holder.toList.map (fun tag => (.claimExpired tag, .nothing)) else []
  | .reevaluate | .timingLoss | .silent | .syncOut | .send => []

/-- TF once the actions of the list are taken. -/
def followerAfter (s : State) (l : List BoundaryAct) (f : Follower) : Follower :=
  l.foldl (Follower.act (swapOf s) s.nextPart) f

/-- The notices of a list of actions, TF being `f` before them. -/
def boundaryLog (s : State) : List BoundaryAct → Follower → List (Topic × NoticePayload)
  | [], _ => []
  | a :: l, f => actLog s a ++ timingLog f (f.act (swapOf s) s.nextPart a) ++
      boundaryLog s l (f.act (swapOf s) s.nextPart a)

theorem boundaryLog_append (s : State) (l l' : List BoundaryAct) (f : Follower) :
    boundaryLog s (l ++ l') f = boundaryLog s l f ++ boundaryLog s l' (followerAfter s l f) := by
  induction l generalizing f with
  | nil => rfl
  | cons a l ih =>
    rw [List.cons_append, boundaryLog, ih, boundaryLog, ← List.append_assoc]
    rfl

theorem runActs_tf {s : State} (l : List BoundaryAct) {u : State} (h : u.part = s.nextPart) :
    (runActs (swapOf s) l u).tf = followerAfter s l u.tf :=
  foldl_part (·.tf) (fun t => t.part = s.nextPart) _ _ (fun t a ht => (boundaryAct_part _ t a).trans ht)
    (fun t a ht => by rw [boundaryAct_tf, ht]) l u h

theorem reevaluate_me (old : PartRec) (s : State) :
    (reevaluate old s).me = s.me.enqueueAll (timingLog s.tf (reevaluate old s).tf) := by
  have htf : (reevaluate old s).tf.state = (reevaluated old s.part s.tf.state).1 := by
    rw [reevaluate_tf]
    split <;> rfl
  unfold timingLog
  rw [htf]
  unfold reevaluate
  dsimp only
  split <;> rfl

theorem timingPortLost_me (s : State) :
    (timingPortLost s).me = s.me.enqueueAll (timingLog s.tf (timingPortLost s).tf) := by
  rw [timingPortLost_tf]
  unfold timingPortLost timingLog
  by_cases hl : s.tf.state = .locked
  · simp only [hl, if_true]
    rfl
  · simp only [hl, if_false, if_true]
    rfl

theorem silentCheck_me (s : State) : (silentCheck s).me = s.me.enqueueAll (timingLog s.tf (silentCheck s).tf) := by
  rw [silentCheck_tf]
  unfold silentCheck
  by_cases hf : s.tf.state = .free
  · simp only [hf, if_true, timingLog]
    rfl
  · rw [if_neg hf, if_neg hf]
    dsimp only
    generalize ht : (if s.tf.seen = true then s else s.modTf (fun f => { f with silent := satInc f.silent })) = t
    obtain ⟨htf, hme⟩ : t.tf = { s.tf with silent := s.tf.checkedSilent } ∧ t.me = s.me := by
      rw [← ht]
      unfold Follower.checkedSilent
      split <;> exact ⟨rfl, rfl⟩
    have hdue : syncMissingDue t = true ↔ s.tf.state = .locked ∧ 8 ≤ s.tf.checkedSilent.toNat := by
      simp [syncMissingDue, htf, Config.silentLimit]
    by_cases h : s.tf.state = .locked ∧ 8 ≤ s.tf.checkedSilent.toNat
    · rw [if_pos (hdue.mpr h), if_pos h]
      simp [timingLog, h.1, loseLockBySilence, queueTiming, queueNotice, Management.enqueueAll, hme]
    · rw [if_neg (fun e => h (hdue.mp e)), if_neg h]
      simp [timingLog, Management.enqueueAll, hme]

theorem countLease_me (u : State) : SameNotices
    (u.me.enqueueAll (if u.me.claim.ends then u.me.claim.holder.toList.map (fun tag => (.claimExpired tag, .nothing)) else []))
    (countLease u).me := by
  unfold countLease Claim.ends
  rcases hh : u.me.claim.holder with _ | tag
  · exact .refl _
  · dsimp only
    by_cases hl : u.me.claim.lease ≤ 1
    · rw [if_pos (by simpa using hl), if_pos (by exact Nat.sub_eq_zero_of_le hl)]
      have hsame : SameNotices u.me { u.me with
          claim := { u.me.claim with holder := none, lease := 0 }, cache := none } := ⟨rfl, rfl, rfl⟩
      exact hsame.enqueue (.claimExpired tag) .nothing
    · rw [if_neg (by simpa using hl), if_neg (by exact fun e => hl (Nat.sub_eq_zero_iff_le.mp e))]
      exact ⟨rfl, rfl, rfl⟩

theorem dropLink_me (p : Port) (target : Link) (s : State) : SameNotices s.me (dropLink p target s).me :=
  ⟨by simp, by simp, by simp⟩

theorem foldl_placeSync_me (l : List Port) (u : State) : (l.foldl placeSync u).me = u.me :=
  foldl_frame State.me _ (fun t p => by simp) _ _

/-- An action other than the sending queues the notices of its log. -/
theorem boundaryAct_me {s u : State} {a : BoundaryAct} (hsend : a ≠ .send) (hpart : u.part = s.nextPart)
    (hport : ∀ p : Port, a = .port p → u.ports[p] = s.ports[p]) (hclaim : a = .lease → u.me.claim = s.me.claim) :
    SameNotices (u.me.enqueueAll (actLog s a ++ timingLog u.tf (u.tf.act (swapOf s) s.nextPart a)))
      (boundaryAct (swapOf s) u a).me := by
  have htf : (boundaryAct (swapOf s) u a).tf = u.tf.act (swapOf s) s.nextPart a := by rw [boundaryAct_tf, hpart]
  have hstill : ∀ f : Follower, timingLog f f = [] := fun f => if_pos rfl
  rw [← htf]
  cases a
  case send => exact absurd rfl hsend
  case commitApplied =>
    rw [htf]
    simp only [Follower.act, hstill, List.append_nil, actLog, boundaryAct]
    by_cases ha : s.banks.state = .armed
    · rw [if_pos ha, if_pos ((swapOf_taken s).mpr ha)]
      exact .refl _
    · rw [if_neg ha, if_neg (fun e => ha ((swapOf_taken s).mp e))]
      exact .refl _
  case reevaluate =>
    simp only [boundaryAct, actLog, List.nil_append]
    split
    · rw [reevaluate_me]
      exact .refl _
    · rw [hstill]
      exact .refl _
  case timingLoss =>
    simp only [boundaryAct, actLog, List.nil_append]
    split
    · rw [timingPortLost_me]
      exact .refl _
    · rw [hstill]
      exact .refl _
  case port p =>
    rw [htf]
    simp only [Follower.act, hstill, List.append_nil, actLog]
    have hp := hport p rfl
    have hnow : u.enabled p = inPortList s.nextPart.portEnable p := by rw [State.enabled, hpart]
    by_cases ha : s.banks.state = .armed
    · rw [boundaryAct_port_swap u p ((swapOf_taken s).mpr ha)]
      have hold : (swapOf s).old = s.part := rfl
      have hdrop : swapDrops s p = ((inPortList s.part.portEnable p && !inPortList s.nextPart.portEnable p)
          && s.ports[p].link == .up) := by simp [swapDrops, ha]
      unfold followPortEnable
      rw [hold, hnow, hp, hdrop]
      by_cases hout : (inPortList s.part.portEnable p && !inPortList s.nextPart.portEnable p) = true
      · rw [if_pos hout, hout]
        rcases hl : s.ports[p].link with _ | _ | _
        · exact .refl _
        · exact .refl _
        · exact (dropLink_me p .down u).enqueue _ _
      · rw [if_neg hout, Bool.eq_false_iff.mpr hout]
        show SameNotices u.me _
        split <;> exact .refl _
    · rw [boundaryAct_port_noSwap u p (fun e => ha ((swapOf_taken s).mp e)), swapDrops_not_armed ha]
      exact .refl _
  case lease =>
    rw [htf]
    simp only [Follower.act, hstill, List.append_nil, actLog, boundaryAct]
    rw [← hclaim rfl]
    exact countLease_me u
  case silent =>
    simp only [boundaryAct, actLog, List.nil_append]
    split
    · rw [hstill]
      exact .refl _
    · rw [silentCheck_me]
      exact .refl _
  case syncOut =>
    rw [htf]
    simp only [Follower.act, hstill, List.append_nil, actLog, boundaryAct, foldl_placeSync_me]
    exact .refl _

theorem port_mem_swapActs (p : Port) : BoundaryAct.port p ∈ swapActs := by revert p; decide

/-- Before its own action a port stands as it stood at the boundary. -/
theorem boundaryAct_keeps_port {s u : State} {a : BoundaryAct} {l : List BoundaryAct} (ho : Orderly (a :: l))
    (hsend : a ≠ .send) (hpart : u.part = s.nextPart)
    (hport : ∀ p : Port, BoundaryAct.port p ∈ a :: l → u.ports[p] = s.ports[p]) (p : Port) (hp : BoundaryAct.port p ∈ l) :
    (boundaryAct (swapOf s) u a).ports[p] = s.ports[p] := by
  have hu := hport p (List.mem_cons_of_mem a hp)
  by_cases h : ∃ p', a = .port p'
  · obtain ⟨p', rfl⟩ := h
    rw [boundaryAct_port_ports p' p hpart (hport p' (List.mem_cons_self ..)), if_neg, hu]
    rintro rfl
    exact ho.tail.1 hp
  · have hsync : a ≠ .syncOut := fun e => ho.swap_done (.inr (.inl e)) (port_mem_swapActs p) hp
    simp only [(boundaryAct_quiet (w := swapOf s) (u := u) (fun p' e => h ⟨p', e⟩) hsync hsend).1]
    exact hu

/-- The notice queue over a list of actions without the sending. -/
theorem runActs_me {s : State} : ∀ (l : List BoundaryAct) (u : State), Orderly l → .send ∉ l → u.part = s.nextPart →
    (∀ p : Port, BoundaryAct.port p ∈ l → u.ports[p] = s.ports[p]) → (.lease ∈ l → u.me.claim = s.me.claim) →
    SameNotices (u.me.enqueueAll (boundaryLog s l u.tf)) (runActs (swapOf s) l u).me
  | [], u, _, _, _, _, _ => .refl _
  | a :: l, u, ho, hsend, hpart, hport, hclaim => by
    have ha : a ≠ .send := fun e => hsend (e ▸ List.mem_cons_self ..)
    have hact := boundaryAct_me ha hpart (fun p e => hport p (e ▸ List.mem_cons_self ..))
      (fun e => hclaim (e ▸ List.mem_cons_self ..))
    have hrest := runActs_me l (boundaryAct (swapOf s) u a) ho.tail.2.2 (fun h => hsend (List.mem_cons_of_mem a h))
      ((boundaryAct_part _ u a).trans hpart) (boundaryAct_keeps_port ho ha hpart hport) (fun h => by
        have hne : a ≠ .lease := fun e => ho.tail.1 (e.symm ▸ h)
        rw [(boundaryAct_claim hne).1]
        exact hclaim (List.mem_cons_of_mem a h))
    rw [boundaryAct_tf, hpart] at hrest
    rw [boundaryLog, enqueueAll_append]
    exact (hact.enqueueAll _).trans hrest

/-! ### What the log holds beside TIMING -/

theorem timingLog_mem {f f' : Follower} {e : Topic × NoticePayload} (h : e ∈ timingLog f f') : e.1 = .timing := by
  unfold timingLog at h
  split at h
  · exact absurd h List.not_mem_nil
  · rw [List.mem_singleton.mp h]

/-- The action whose log can hold a notice of the topic. -/
def actOf (t : Topic) : BoundaryAct :=
  match t with
  | .link p => .port p
  | .claimExpired _ => .lease
  | _ => .commitApplied

theorem actLog_mem {s : State} {a : BoundaryAct} {e : Topic × NoticePayload} (h : e ∈ actLog s a) :
    e.1 ≠ .timing ∧ actOf e.1 = a ∧
    ((s.banks.state = .armed ∧ e.1 = .commitApplied ∧ e.2 = .nothing) ∨
      (∃ p, swapDrops s p = true ∧ e.1 = .link p ∧ e.2 = .link false) ∨
      (∃ tag, LeaseEnds s tag ∧ e.1 = .claimExpired tag ∧ e.2 = .nothing)) := by
  cases a <;> simp only [actLog, List.not_mem_nil] at h
  case commitApplied =>
    split at h
    next ha =>
      rw [List.mem_singleton.mp h]
      exact ⟨nofun, rfl, .inl ⟨ha, rfl, rfl⟩⟩
    · exact absurd h List.not_mem_nil
  case port p =>
    split at h
    next hd =>
      rw [List.mem_singleton.mp h]
      exact ⟨nofun, rfl, .inr (.inl ⟨p, hd, rfl, rfl⟩)⟩
    · exact absurd h List.not_mem_nil
  case lease =>
    split at h
    next hends =>
      obtain ⟨tag, htag, rfl⟩ := List.mem_map.mp h
      have hlease := (Bool.and_eq_true _ _ ▸ hends).2
      exact ⟨nofun, rfl, .inr (.inr ⟨tag, ⟨Option.mem_toList.mp htag, of_decide_eq_true hlease⟩, rfl, rfl⟩)⟩
    · exact absurd h List.not_mem_nil

theorem actLog_nodup (s : State) (a : BoundaryAct) : (actLog s a).Nodup := by
  cases a <;> simp only [actLog]
  case lease =>
    split
    · cases s.me.claim.holder <;> simp
    · exact List.nodup_nil
  case commitApplied => split <;> simp
  case port => split <;> simp
  all_goals exact List.nodup_nil

theorem boundaryLog_filter (s : State) (l : List BoundaryAct) (f : Follower) :
    (boundaryLog s l f).filter (fun e => e.1 != .timing) = l.flatMap (actLog s) := by
  induction l generalizing f with
  | nil => rfl
  | cons a l ih =>
    have h1 : (actLog s a).filter (fun e => e.1 != .timing) = actLog s a :=
      List.filter_eq_self.mpr (fun e he => by simpa using (actLog_mem he).1)
    have h2 : (timingLog f (f.act (swapOf s) s.nextPart a)).filter (fun e => e.1 != .timing) = [] :=
      List.filter_eq_nil_iff.mpr (fun e he => by simp [timingLog_mem he])
    rw [boundaryLog, List.filter_append, List.filter_append, h1, h2, ih, List.flatMap_cons, List.append_nil]

theorem flatMap_actLog_nodup (s : State) {l : List BoundaryAct} (h : l.Nodup) : (l.flatMap (actLog s)).Nodup := by
  refine List.nodup_flatMap.mpr ⟨fun a _ => actLog_nodup s a, h.imp (fun {a b} hab => ?_)⟩
  intro e ha hb
  exact hab ((actLog_mem ha).2.1.symm.trans (actLog_mem hb).2.1)

/-- The notices beside TIMING that the schedule's log holds. -/
theorem mem_flatMap_actLog (s : State) {l : List BoundaryAct} (hall : ∀ a, a ∈ l) (e : Topic × NoticePayload) :
    e ∈ l.flatMap (actLog s) ↔
      (s.banks.state = .armed ∧ e.1 = .commitApplied ∧ e.2 = .nothing) ∨
      (∃ p, swapDrops s p = true ∧ e.1 = .link p ∧ e.2 = .link false) ∨
      (∃ tag, LeaseEnds s tag ∧ e.1 = .claimExpired tag ∧ e.2 = .nothing) := by
  rw [List.mem_flatMap]
  refine ⟨fun ⟨a, _, he⟩ => (actLog_mem he).2.2, fun h => ⟨actOf e.1, hall _, ?_⟩⟩
  obtain ⟨t, pl⟩ := e
  rcases h with ⟨ha, rfl, rfl⟩ | ⟨p, hd, rfl, rfl⟩ | ⟨tag, ⟨hh, hl⟩, rfl, rfl⟩
  · simp [actOf, actLog, ha]
  · simp [actOf, actLog, hd]
  · simp [actOf, actLog, Claim.ends, hh, hl]

/-! ### TIMING in the log -/

/-- The TIMING notices of a list of actions. -/
def timingChanges (s : State) : List BoundaryAct → Follower → List (Topic × NoticePayload)
  | [], _ => []
  | a :: l, f => timingLog f (f.act (swapOf s) s.nextPart a) ++ timingChanges s l (f.act (swapOf s) s.nextPart a)

theorem boundaryLog_timing (s : State) (l : List BoundaryAct) (f : Follower) :
    (boundaryLog s l f).filter (fun e => e.1 == .timing) = timingChanges s l f := by
  induction l generalizing f with
  | nil => rfl
  | cons a l ih =>
    have h1 : (actLog s a).filter (fun e => e.1 == .timing) = [] :=
      List.filter_eq_nil_iff.mpr (fun e he => by simpa using (actLog_mem he).1)
    have h2 : (timingLog f (f.act (swapOf s) s.nextPart a)).filter (fun e => e.1 == .timing) =
        timingLog f (f.act (swapOf s) s.nextPart a) :=
      List.filter_eq_self.mpr (fun e he => by simp [timingLog_mem he])
    rw [boundaryLog, List.filter_append, List.filter_append, h1, h2, ih, List.nil_append]
    rfl

theorem act_of_not_reaches {w : Swap} {r : PartRec} {a : BoundaryAct} (h : reachesFollower a = false) (f : Follower) :
    f.act w r a = f := by cases a <;> first | rfl | cases h

theorem timingChanges_filter (s : State) (l : List BoundaryAct) (f : Follower) :
    timingChanges s l f = timingChanges s (l.filter reachesFollower) f ∧
    followerAfter s l f = followerAfter s (l.filter reachesFollower) f := by
  induction l generalizing f with
  | nil => exact ⟨rfl, rfl⟩
  | cons a l ih =>
    rw [timingChanges, followerAfter, List.foldl_cons]
    cases ha : reachesFollower a
    · rw [act_of_not_reaches ha, List.filter_cons_of_neg (by simp [ha])]
      obtain ⟨h1, h2⟩ := ih f
      refine ⟨?_, h2⟩
      rw [← h1, timingLog, if_pos rfl, List.nil_append]
    · rw [List.filter_cons_of_pos ha]
      obtain ⟨h1, h2⟩ := ih (f.act (swapOf s) s.nextPart a)
      exact ⟨by rw [h1]; rfl, h2⟩

theorem reevaluate_state (w : Swap) (r : PartRec) (f : Follower) : (f.reevaluate w r).state = f.state ∨
    (f.reevaluate w r).state = .free ∨ (f.reevaluate w r).state = .acquire := by
  have hr : ∀ old t, (reevaluated old r t).1 = t ∨ (reevaluated old r t).1 = .free ∨ (reevaluated old r t).1 = .acquire := by
    intro old t
    unfold reevaluated
    split
    · exact .inr (.inl rfl)
    · exact .inr (.inr rfl)
    · exact .inr (.inl rfl)
    · split
      · exact .inl rfl
      · exact .inr (.inr rfl)
  unfold Follower.reevaluate
  split
  · split <;> exact hr _ _
  · exact .inl rfl

theorem lose_state (w : Swap) (f : Follower) : (f.lose w).state = f.state ∨
    (f.state = .locked ∧ w.timingLost = true ∧ (f.lose w).state = .holdover) := by
  unfold Follower.lose
  split
  next h => exact .inr ⟨h.2, h.1, rfl⟩
  · exact .inl rfl

theorem check_state (w : Swap) (r : PartRec) (f : Follower) : (f.check w r).state = f.state ∨
    (f.state = .locked ∧ 8 ≤ f.checkedSilent.toNat ∧ (f.check w r).state = .holdover) := by
  unfold Follower.check
  split
  · exact .inl rfl
  · split
    next h => exact .inr ⟨h.1, h.2, rfl⟩
    · exact .inl rfl

/-- The TIMING notices of three changes, of which the re-evaluation comes first: at most one is made. -/
theorem changes_reevaluate_first {f f1 f2 f3 : Follower} (h1 : f1.state = f.state ∨ f1.state = .free ∨ f1.state = .acquire)
    (h2 : f2.state = f1.state ∨ (f1.state = .locked ∧ f2.state = .holdover))
    (h3 : f3.state = f2.state ∨ (f2.state = .locked ∧ f3.state = .holdover)) :
    (f3.state = f.state → timingLog f f1 ++ (timingLog f1 f2 ++ timingLog f2 f3) = []) ∧
    (f3.state ≠ f.state → timingLog f f1 ++ (timingLog f1 f2 ++ timingLog f2 f3) = [(.timing, .timing f3.state)]) := by
  unfold timingLog
  rcases h1 with h1 | h1 | h1 <;> rcases h2 with h2 | ⟨h2, h2'⟩ <;> rcases h3 with h3 | ⟨h3, h3'⟩ <;> simp_all

/-- The TIMING notices of three changes, of which the loss of the timing port comes first. -/
theorem changes_loss_first {f f1 f2 f3 : Follower} (h1 : f1.state = f.state ∨ (f.state = .locked ∧ f1.state = .holdover))
    (h2 : f2.state = f1.state ∨ f2.state = .free ∨ f2.state = .acquire)
    (h3 : f3.state = f2.state ∨ (f2.state = .locked ∧ f3.state = .holdover)) :
    (f3.state = f.state → timingLog f f1 ++ (timingLog f1 f2 ++ timingLog f2 f3) = []) ∧
    (f3.state ≠ f.state → timingLog f f1 ++ (timingLog f1 f2 ++ timingLog f2 f3) = [(.timing, .timing f3.state)] ∨
      (f.state = .locked ∧ f1.state = .holdover ∧ f3.state ≠ .holdover ∧
        timingLog f f1 ++ (timingLog f1 f2 ++ timingLog f2 f3) =
          [(.timing, .timing .holdover), (.timing, .timing f3.state)])) := by
  unfold timingLog
  rcases h1 with h1 | ⟨h1, h1'⟩ <;> rcases h2 with h2 | h2 | h2 <;> rcases h3 with h3 | ⟨h3, h3'⟩ <;> simp_all

/-- TIMING reports each change of the timing state: one, or two where the loss comes before the re-evaluation. -/
theorem timingChanges_cases {s : State} {l : List BoundaryAct} {f : Follower}
    (h : l.filter reachesFollower = [.reevaluate, .timingLoss, .silent] ∨
      l.filter reachesFollower = [.timingLoss, .reevaluate, .silent]) :
    ((followerAfter s l f).state = f.state → timingChanges s l f = []) ∧
    ((followerAfter s l f).state ≠ f.state →
      timingChanges s l f = [(.timing, .timing (followerAfter s l f).state)] ∨
      ((swapOf s).timingLost = true ∧ f.state = .locked ∧ (followerAfter s l f).state ≠ .holdover ∧
        timingChanges s l f =
          [(.timing, .timing .holdover), (.timing, .timing (followerAfter s l f).state)])) := by
  rw [(timingChanges_filter s l f).1, (timingChanges_filter s l f).2]
  rcases h with h | h <;> rw [h] <;>
    simp only [timingChanges, followerAfter, List.foldl_cons, List.foldl_nil, Follower.act, List.append_nil]
  · obtain ⟨hsame, hchange⟩ := changes_reevaluate_first (reevaluate_state (swapOf s) s.nextPart f)
      ((lose_state (swapOf s) (f.reevaluate (swapOf s) s.nextPart)).imp_right (fun ⟨h, _, h'⟩ => ⟨h, h'⟩))
      ((check_state (swapOf s) s.nextPart _).imp_right (fun ⟨h, _, h'⟩ => ⟨h, h'⟩))
    exact ⟨hsame, fun hne => .inl (hchange hne)⟩
  · obtain ⟨hsame, hchange⟩ := changes_loss_first
      ((lose_state (swapOf s) f).imp_right (fun ⟨h, _, h'⟩ => ⟨h, h'⟩))
      (reevaluate_state (swapOf s) s.nextPart (f.lose (swapOf s)))
      ((check_state (swapOf s) s.nextPart _).imp_right (fun ⟨h, _, h'⟩ => ⟨h, h'⟩))
    refine ⟨hsame, fun hne => (hchange hne).imp_right (fun ⟨hl, hh, hn, e⟩ => ⟨?_, hl, hn, e⟩)⟩
    rcases lose_state (swapOf s) f with h' | ⟨-, hlost, -⟩
    · exact absurd (hl.symm.trans (h'.symm.trans hh)) nofun
    · exact hlost

end Sys2Proof.Machine
end

section
/-!
The notice queue over a boundary or step (R125, R147, R171, R181 to R183): what is queued before the sending, the sending,
and what is queued after it.
-/

namespace Sys2Proof.Machine

/-! ### The schedule around the sending -/

/-- After the sending come the silent check and the SYNC cells at most. -/
theorem Orderly.after_send {pre post : List BoundaryAct} (h : Orderly (pre ++ .send :: post)) :
    .send ∉ pre ∧ Orderly pre ∧ Orderly post ∧ ∀ a ∈ post, a = .silent ∨ a = .syncOut := by
  have hpre := h.sublist (List.sublist_append_left pre (.send :: post))
  have hsend := h.sublist (List.sublist_append_right pre (.send :: post))
  obtain ⟨hnot, hbefore, hpost⟩ := hsend.tail
  obtain ⟨-, -, hdisj⟩ := List.nodup_append.mp h.1
  refine ⟨fun hm => hdisj _ hm _ (List.mem_cons_self ..) rfl, hpre, hpost, fun a ha => ?_⟩
  rcases swapActs_or_own a with h | h | h | h | h
  · exact absurd rfl ((hbefore a ha).1 h).2.2
  · exact absurd rfl ((hbefore a ha).2 h)
  · exact .inl h
  · exact .inr h
  · exact absurd (h ▸ ha) hnot

theorem boundaryLog_silents (s : State) : ∀ (l : List BoundaryAct) (f : Follower), (∀ a ∈ l, a = .silent ∨ a = .syncOut) →
    l.Nodup → boundaryLog s l f = [] ∨
      (.silent ∈ l ∧ boundaryLog s l f = [(.timing, .timing .holdover)] ∧ 8 ≤ f.checkedSilent.toNat)
  | [], _, _, _ => .inl rfl
  | a :: l, f, hall, hnodup => by
    obtain ⟨ha, hnodup⟩ := List.nodup_cons.mp hnodup
    have hrest := boundaryLog_silents s l (f.act (swapOf s) s.nextPart a)
      (fun x hx => hall x (List.mem_cons_of_mem a hx)) hnodup
    rw [boundaryLog]
    rcases hall a (List.mem_cons_self ..) with rfl | rfl
    · have hnil : boundaryLog s l (f.check (swapOf s) s.nextPart) = [] := hrest.resolve_right (fun h => ha h.1)
      simp only [actLog, Follower.act, hnil, List.nil_append, List.append_nil]
      rcases check_state (swapOf s) s.nextPart f with h | ⟨hl, h8, hh⟩
      · exact .inl (if_pos h)
      · have hlog : timingLog f (f.check (swapOf s) s.nextPart) = [(.timing, .timing .holdover)] :=
          (if_neg (by rw [hh, hl]; nofun)).trans (by rw [hh])
        exact .inr ⟨List.mem_cons_self .., hlog, h8⟩
    · have hstill : timingLog f f = [] := if_pos rfl
      simp only [actLog, Follower.act, hstill, List.nil_append]
      exact hrest.imp_right (fun ⟨h1, h2⟩ => ⟨List.mem_cons_of_mem _ h1, h2⟩)

/-- Before the silent check the silent counter is as at the boundary, or has been set to 0. -/
theorem followerAfter_silent (s : State) {l : List BoundaryAct} (h : .silent ∉ l) (f : Follower)
    (h8 : 8 ≤ (followerAfter s l f).checkedSilent.toNat) : 8 ≤ f.checkedSilent.toNat := by
  induction l generalizing f with
  | nil => exact h8
  | cons a l ih =>
    have hrest := ih (fun hm => h (List.mem_cons_of_mem a hm)) _ h8
    have hone : ∀ g : Follower, g.silent = 0 → g.seen = false → ¬ 8 ≤ g.checkedSilent.toNat := by
      intro g h1 h2
      rw [Follower.checkedSilent, h1, h2]
      decide
    cases a
    case silent => exact absurd (List.mem_cons_self ..) h
    case reevaluate =>
      simp only [Follower.act, Follower.reevaluate] at hrest
      split at hrest
      · split at hrest
        · exact absurd hrest (hone _ rfl rfl)
        · exact hrest
      · exact hrest
    case timingLoss =>
      simp only [Follower.act, Follower.lose] at hrest
      split at hrest <;> exact hrest
    all_goals exact hrest

/-! ### The sending -/

theorem noticeDue_iff (resend : Nat) (n : Notice) : noticeDue resend n = true ↔ n.Due resend := by
  unfold noticeDue Notice.Due
  rcases n.age with _ | a <;> simp

theorem ageNotices_notices (u : State) : (ageNotices u).me = { u.me with notices := u.me.aged } := by
  have hage : ∀ a : Nat, min 65535 (a + 1) = if a < 65535 then a + 1 else 65535 := fun a => by split <;> omega
  simp only [ageNotices, State.modMe_me, Management.aged, hage]

theorem markSent_first {resend : Nat} {pre post : List Notice} {n : Notice} (hpre : ∀ x ∈ pre, ¬ x.Due resend)
    (hn : n.Due resend) : markSent resend (pre ++ n :: post) = pre ++ { n with age := some 0 } :: post := by
  induction pre with
  | nil => exact if_pos ((noticeDue_iff resend n).mpr hn)
  | cons x l ih =>
    have hx : ¬ noticeDue resend x = true := fun h => hpre x (List.mem_cons_self ..) ((noticeDue_iff resend x).mp h)
    rw [List.cons_append, markSent, if_neg hx, ih (fun y hy => hpre y (List.mem_cons_of_mem x hy))]
    rfl

theorem find?_noticeDue {resend : Nat} {l : List Notice} {n : Notice} (h : l.find? (noticeDue resend) = some n) :
    ∃ pre post, l = pre ++ n :: post ∧ (∀ x ∈ pre, ¬ x.Due resend) ∧ n.Due resend := by
  obtain ⟨hn, pre, post, e, hpre⟩ := List.find?_eq_some_iff_append.mp h
  refine ⟨pre, post, e, fun x hx hd => ?_, (noticeDue_iff resend n).mp hn⟩
  have := hpre x hx
  rw [(noticeDue_iff resend x).mpr hd] at this
  cases this

/-- What the sending sees of the notices. -/
theorem noticeToSend_aged {u : State} {n : Notice} (h : noticeToSend (ageNotices u) = some n) :
    (u.me.claim.holder ≠ none ∧ u.enabled u.me.claim.port = true ∧ u.ports[u.me.claim.port].link = .up ∧
      u.ports[u.me.claim.port].control.length < 4) ∧ u.me.aged.find? (noticeDue u.part.resend) = some n := by
  unfold noticeToSend at h
  split at h
  next hc =>
    rw [ageNotices_notices] at h
    exact ⟨hc, h⟩
  · cases h

/-- ME after the sending: the ages advanced, and at most the first due notice sent. -/
theorem boundaryAct_send_me (w : Swap) (u : State) :
    (noticeToSend (ageNotices u) = none ∧ (boundaryAct w u .send).me = { u.me with notices := u.me.aged }) ∨
    ∃ pre n post, noticeToSend (ageNotices u) = some n ∧
      FirstDueSent u.part.resend pre n post u.me (boundaryAct w u .send).me := by
  rcases hn : noticeToSend (ageNotices u) with _ | n
  · left
    refine ⟨rfl, ?_⟩
    simp only [boundaryAct]
    rw [sendNotice_none hn, ageNotices_notices]
  · right
    obtain ⟨-, hfind⟩ := noticeToSend_aged hn
    obtain ⟨pre, post, e, hpre, hdue⟩ := find?_noticeDue hfind
    refine ⟨pre, n, post, rfl, e, hpre, hdue, ?_⟩
    have hme : (boundaryAct w u .send).me = { (ageNotices u).me with
        notices := markSent u.part.resend (ageNotices u).me.notices, overflow := false } := by
      simp only [boundaryAct]
      rw [sendNotice_some hn]
      simp [ageNotices, State.part]
    rw [hme, ageNotices_notices]
    simp only [e]
    rw [markSent_first hpre hdue]

/-! ### The whole queue -/

theorem Management.ext_fields {m m' : Management} (hsame : SameNotices m m') (h1 : m'.requests = m.requests)
    (h2 : m'.slots = m.slots) (h3 : m'.resetting = m.resetting) (h4 : m'.claim = m.claim) (h5 : m'.cache = m.cache) :
    m' = m := by
  obtain ⟨h6, h7, h8⟩ := hsame
  cases m
  cases m'
  simp_all

theorem SameNotices.aged {m m' : Management} (h : SameNotices m m') : m'.aged = m.aged := by
  unfold Management.aged
  rw [h.notices]

/-- The state in which a boundary or step sends, and what comes before and after. -/
structure Sending (k : BoundaryKind) (sch : List BoundaryAct) (s u : State) (pre post : List BoundaryAct) : Prop where
  schedule : effectiveSchedule sch = pre ++ .send :: post
  reached : u = runActs (swapOf s) pre (enterPeriod k s)
  done : takeBoundary k sch s = runActs (swapOf s) post (boundaryAct (swapOf s) u .send)

theorem takeBoundary_sending {k : BoundaryKind} {sch pre post : List BoundaryAct} {s : State}
    (h : effectiveSchedule sch = pre ++ .send :: post) :
    Sending k sch s (runActs (swapOf s) pre (enterPeriod k s)) pre post := by
  refine ⟨h, rfl, ?_⟩
  unfold takeBoundary runActs
  rw [h, List.foldl_append, List.foldl_cons]

section
variable {k : BoundaryKind} {sch pre post : List BoundaryAct} {s u : State}

theorem Sending.orderly (h : Sending k sch s u pre post) : Orderly (pre ++ .send :: post) :=
  h.schedule ▸ effectiveSchedule_orderly sch

theorem Sending.part_pt (h : Sending k sch s u pre post) : u.part = s.nextPart ∧ u.pt = (takeBoundary k sch s).pt := by
  rw [h.reached, (runActs_part_pt ..).1, (runActs_part_pt ..).2, enterPeriod_part, enterPeriod_pt, takeBoundary_pt]
  exact ⟨rfl, rfl⟩

theorem Sending.lease_mem (h : Sending k sch s u pre post) : .lease ∈ pre := by
  have hm := mem_effectiveSchedule sch .lease
  rw [h.schedule, List.mem_append, List.mem_cons] at hm
  refine hm.resolve_right (fun hm => ?_)
  rcases hm with hm | hm
  · cases hm
  · rcases h.orderly.after_send.2.2.2 _ hm with e | e <;> cases e

theorem Sending.claim (h : Sending k sch s u pre post) : u.me.claim = s.me.claim.counted ∧
    (takeBoundary k sch s).me.claim = s.me.claim.counted ∧
    (takeBoundary k sch s).me.cache = if s.me.claim.ends then none else s.me.cache := by
  obtain ⟨h1, h2⟩ := runActs_claim (w := swapOf s) (enterPeriod k s) h.orderly.after_send.2.1.1 h.lease_mem
  have hnot : BoundaryAct.lease ∉ .send :: post := by
    intro hm
    rcases List.mem_cons.mp hm with hm | hm
    · cases hm
    · rcases h.orderly.after_send.2.2.2 _ hm with e | e <;> cases e
  obtain ⟨h3, h4⟩ := runActs_claim_none (w := swapOf s) hnot u
  have hme : (enterPeriod k s).me = s.me := by simp
  rw [← h.reached, hme] at h1 h2
  have hdone : runActs (swapOf s) (.send :: post) u = takeBoundary k sch s := h.done.symm
  rw [hdone] at h3 h4
  exact ⟨h1, h3.trans h1, h4.trans h2⟩

/-- The notices queued before the sending. -/
theorem Sending.before (h : Sending k sch s u pre post) :
    u.tf = followerAfter s pre s.tf ∧ SameNotices (s.me.enqueueAll (boundaryLog s pre s.tf)) u.me := by
  have hframe : (enterPeriod k s).me = s.me ∧ (enterPeriod k s).tf = s.tf ∧ (enterPeriod k s).ports = s.ports := by simp
  obtain ⟨hme, htf, hports⟩ := hframe
  obtain ⟨hsend, hpre, -⟩ := h.orderly.after_send
  have hrun := runActs_me pre (enterPeriod k s) hpre hsend (enterPeriod_part k s) (fun p _ => by simp only [hports])
    (fun _ => by rw [hme])
  have htf' := runActs_tf (s := s) pre (enterPeriod_part k s)
  rw [← h.reached, htf] at htf'
  rw [← h.reached, hme, htf] at hrun
  exact ⟨htf', hrun⟩

/-- The notices queued after the sending. -/
theorem Sending.after (h : Sending k sch s u pre post) : SameNotices
    ((boundaryAct (swapOf s) u .send).me.enqueueAll (boundaryLog s post u.tf)) (takeBoundary k sch s).me := by
  obtain ⟨-, -, hpost, hall⟩ := h.orderly.after_send
  have htf : (boundaryAct (swapOf s) u .send).tf = u.tf := by rw [boundaryAct_tf]; rfl
  have hrun := runActs_me (s := s) post (boundaryAct (swapOf s) u .send) hpost
    (fun hm => by rcases hall _ hm with e | e <;> cases e) ((boundaryAct_part _ u .send).trans h.part_pt.1)
    (fun p hm => by rcases hall _ hm with e | e <;> cases e) (fun hm => by rcases hall _ hm with e | e <;> cases e)
  rw [htf, ← h.done] at hrun
  exact hrun

/-- The log of the schedule, cut at the sending. -/
theorem Sending.log (h : Sending k sch s u pre post) :
    boundaryLog s pre s.tf ++ boundaryLog s post u.tf = boundaryLog s (effectiveSchedule sch) s.tf := by
  have hstill : timingLog u.tf u.tf = [] := if_pos rfl
  rw [h.schedule, boundaryLog_append, boundaryLog, ← h.before.1]
  simp only [actLog, Follower.act, hstill, List.nil_append]

theorem boundaryLog_due (k : BoundaryKind) (sch : List BoundaryAct) (s : State) :
    DueNotices s (takeBoundary k sch s) (boundaryLog s (effectiveSchedule sch) s.tf) := by
  have htf : (takeBoundary k sch s).tf = followerAfter s (effectiveSchedule sch) s.tf := by
    have := runActs_tf (s := s) (effectiveSchedule sch) (enterPeriod_part k s)
    rwa [show (enterPeriod k s).tf = s.tf by simp] at this
  have hstatic := boundaryLog_filter s (effectiveSchedule sch) s.tf
  refine ⟨?_, fun topic payload hne => ?_, ?_⟩
  · rw [hstatic]
    exact flatMap_actLog_nodup s (effectiveSchedule_orderly sch).1
  · have hmem : (topic, payload) ∈ boundaryLog s (effectiveSchedule sch) s.tf ↔
        (topic, payload) ∈ (effectiveSchedule sch).flatMap (actLog s) := by
      rw [← hstatic, List.mem_filter]
      simp [hne]
    rw [hmem, mem_flatMap_actLog s (mem_effectiveSchedule sch)]
    simp only [swapDrops_iff, and_assoc]
  · dsimp only
    rw [boundaryLog_timing, htf]
    obtain ⟨hsame, hchange⟩ := timingChanges_cases (f := s.tf) (followerActs sch)
    refine ⟨hsame, fun hne => (hchange hne).imp_right (fun ⟨hlost, hl, hh, e⟩ => ?_)⟩
    simp only [swapOf, Bool.and_eq_true, beq_iff_eq, Bool.not_eq_true', State.isUp] at hlost
    exact ⟨hlost.1.1, hl, hlost.1.2, hlost.2, hh, e⟩

/-- ME at the boundary, with the slots, the claim and the cache of its end. -/
def startMe (s t : State) : Management :=
  { s.me with slots := t.me.slots, claim := t.me.claim, cache := t.me.cache }

/-- ME as the notices before the sending leave it. -/
def sendingMe (s t : State) (l : List (Topic × NoticePayload)) : Management := (startMe s t).enqueueAll l

theorem Sending.me (h : Sending k sch s u pre post) :
    SameNotices u.me (sendingMe s (takeBoundary k sch s) (boundaryLog s pre s.tf)) := by
  have hm : SameNotices (startMe s (takeBoundary k sch s)) s.me := ⟨rfl, rfl, rfl⟩
  obtain ⟨h1, h2, h3⟩ := (hm.enqueueAll (boundaryLog s pre s.tf)).trans h.before.2
  exact ⟨h1.symm, h2.symm, h3.symm⟩

/-- The notice queue over a boundary or step, by what the sending sends. -/
theorem Sending.queue (h : Sending k sch s u pre post) {m' : Management}
    (hsent : m' = { sendingMe s (takeBoundary k sch s) (boundaryLog s pre s.tf) with
        notices := (sendingMe s (takeBoundary k sch s) (boundaryLog s pre s.tf)).aged } ∨
      ∃ pr n po, FirstDueSent s.nextPart.resend pr n po
        (sendingMe s (takeBoundary k sch s) (boundaryLog s pre s.tf)) m')
    (hsame : SameNotices m' (boundaryAct (swapOf s) u .send).me) :
    BoundaryQueue s (takeBoundary k sch s) (boundaryLog s pre s.tf) (boundaryLog s post u.tf)
      (sendingMe s (takeBoundary k sch s) (boundaryLog s pre s.tf)) m' := by
  obtain ⟨-, -, hpost, hall⟩ := h.orderly.after_send
  refine ⟨?_, ?_, noticesQueued_enqueueAll _ _, hsent, ?_⟩
  · rw [h.log]
    exact boundaryLog_due k sch s
  · refine (boundaryLog_silents s post u.tf hall hpost.1).imp_right (fun ⟨hm, e, h8⟩ => ⟨e, ?_⟩)
    rw [h.before.1] at h8
    refine followerAfter_silent s (fun hp => ?_) s.tf h8
    obtain ⟨-, -, hdisj⟩ := List.nodup_append.mp h.orderly.1
    exact hdisj _ hp _ (List.mem_cons_of_mem _ hm) rfl
  · have hfields : m'.requests = s.me.requests ∧ m'.slots = (takeBoundary k sch s).me.slots ∧
        m'.resetting = s.me.resetting ∧ m'.claim = (takeBoundary k sch s).me.claim ∧
        m'.cache = (takeBoundary k sch s).me.cache := by
      have hf := enqueueAll_frame (boundaryLog s pre s.tf) (startMe s (takeBoundary k sch s))
      rcases hsent with e | ⟨pr, n, po, -, -, -, e⟩ <;> rw [e] <;> exact hf
    obtain ⟨f1, f2, f3, f4, f5⟩ := hfields
    have hafter := enqueueAll_frame (boundaryLog s post u.tf) m'
    obtain ⟨e1, e2, e3, e4, e5⟩ := hafter
    have hreq := (takeBoundary_frame k sch s).2.2.2.2.2
    have hend : (takeBoundary k sch s).me = m'.enqueueAll (boundaryLog s post u.tf) :=
      Management.ext_fields ((hsame.enqueueAll _).trans h.after) (hreq.1.trans (e1.trans f1).symm) (e2.trans f2).symm
        (hreq.2.trans (e3.trans f3).symm) (e4.trans f4).symm (e5.trans f5).symm
    rw [hend]
    exact noticesQueued_enqueueAll _ _

end

end Sys2Proof.Machine
end

section
/-!
The notices that stand after a boundary or step, and the statements about its notices, its lease, its silent check and its
swap (O18 to O22, O24).
-/

namespace Sys2Proof.Machine

/-! ### Kinds and contents -/

/-- What each notice of the queue says. -/
def Management.told (m : Management) : List (Topic × NoticePayload) := m.notices.map (fun n => (n.topic, n.payload))

theorem told_of_same {m m' : Management} (h : SameNotices m m') : m'.told = m.told := by
  unfold Management.told
  rw [h.notices]

theorem told_aged (m : Management) : ({ m with notices := m.aged } : Management).told = m.told := by
  simp [Management.told, Management.aged]

theorem told_sent {resend : Nat} {pre post : List Notice} {n : Notice} {m m' : Management}
    (h : FirstDueSent resend pre n post m m') : m'.told = m.told := by
  obtain ⟨e, -, -, hm⟩ := h
  have haged : m.told = m.aged.map (fun n => (n.topic, n.payload)) := (told_aged m).symm
  rw [haged, hm, e]
  simp [Management.told]

theorem told_enqueue_keeps {e : Topic × NoticePayload} {t : Topic} (pl : NoticePayload) {m : Management} (h : e ∈ m.told)
    (hne : e.1 ≠ t) : e ∈ (enqueueNotice t pl m).told := by
  obtain ⟨n, hn, rfl⟩ := List.mem_map.mp h
  refine List.mem_map.mpr ⟨n, ?_, rfl⟩
  obtain ⟨-, -, -, -, -, hcases⟩ := noticeQueued_enqueueNotice t pl m
  rcases hcases with ⟨before, old, after, e, htopic, -, e', -⟩ | ⟨-, -, e, -⟩ | ⟨-, -, e, -⟩
  · rw [e, List.mem_append, List.mem_cons] at hn
    rw [e', List.mem_append, List.mem_append]
    rcases hn with hn | rfl | hn
    · exact .inl (.inl hn)
    · exact absurd htopic hne
    · exact .inl (.inr hn)
  · rw [e]; exact hn
  · rw [e]; exact List.mem_append_left _ hn

theorem told_enqueueAll_keeps {e : Topic × NoticePayload} {l : List (Topic × NoticePayload)} {m : Management}
    (h : e ∈ m.told) (hne : ∀ x ∈ l, x.1 ≠ e.1) : e ∈ (m.enqueueAll l).told := by
  induction l generalizing m with
  | nil => exact h
  | cons x l ih =>
    exact ih (told_enqueue_keeps x.2 h (hne x (List.mem_cons_self ..)).symm)
      (fun y hy => hne y (List.mem_cons_of_mem x hy))

/-! ### Room for what a boundary can queue -/

/-- At most 5 notices beside those of the listed kinds. -/
def Spare (T : List Topic) (m : Management) : Prop :=
  m.told.length ≤ 5 + T.countP (fun t => decide (t ∈ m.told.map Prod.fst))

theorem countP_lt_of_mem {α : Type} {p p' : α → Bool} {l : List α} {a : α} (hle : ∀ x, p x = true → p' x = true)
    (ha : a ∈ l) (hp : p a = false) (hp' : p' a = true) : l.countP p < l.countP p' := by
  obtain ⟨l1, l2, rfl⟩ := List.append_of_mem ha
  have h1 : l1.countP p ≤ l1.countP p' := List.countP_mono_left (fun x _ => hle x)
  have h2 : l2.countP p ≤ l2.countP p' := List.countP_mono_left (fun x _ => hle x)
  rw [List.countP_append, List.countP_append, List.countP_cons_of_neg (by simp [hp]), List.countP_cons_of_pos hp']
  omega

/-- With room, a notice queued stands in the queue, and room stays for every other kind. -/
theorem Spare.enqueue {T : List Topic} {m : Management} {t : Topic} (h : Spare T m) (hT : T.length ≤ 11) (ht : t ∈ T)
    (pl : NoticePayload) : Spare T (enqueueNotice t pl m) ∧ (t, pl) ∈ (enqueueNotice t pl m).told := by
  obtain ⟨-, -, -, -, -, hcases⟩ := noticeQueued_enqueueNotice t pl m
  have habsent : (∀ n ∈ m.notices, n.topic ≠ t) → t ∉ m.told.map Prod.fst := by
    intro hn hm
    simp only [Management.told, List.map_map, List.mem_map] at hm
    obtain ⟨n, hmem, e⟩ := hm
    exact hn n hmem e
  unfold Spare at *
  rcases hcases with ⟨before, old, after, e, htopic, -, e', -⟩ | ⟨hn, hfull, -⟩ | ⟨hn, -, e, -⟩
  · have hm : m.told = before.map (fun n => (n.topic, n.payload)) ++ (old.topic, old.payload) ::
        after.map (fun n => (n.topic, n.payload)) := by simp [Management.told, e]
    have hm' : (enqueueNotice t pl m).told = before.map (fun n => (n.topic, n.payload)) ++
        after.map (fun n => (n.topic, n.payload)) ++ [(t, pl)] := by simp [Management.told, e']
    refine ⟨?_, by rw [hm']; simp⟩
    have hcount : T.countP (fun x => decide (x ∈ m.told.map Prod.fst)) ≤
        T.countP (fun x => decide (x ∈ (enqueueNotice t pl m).told.map Prod.fst)) := by
      refine List.countP_mono_left (fun x _ hx => ?_)
      rw [decide_eq_true_eq] at hx ⊢
      rw [hm, List.map_append, List.mem_append, List.map_cons, List.mem_cons] at hx
      rw [hm', List.map_append, List.map_append, List.mem_append, List.mem_append]
      rcases hx with hx | rfl | hx
      · exact .inl (.inl hx)
      · exact .inr (by simp [htopic])
      · exact .inl (.inr hx)
    have hlen : (enqueueNotice t pl m).told.length = m.told.length := by
      rw [hm, hm']
      simp
    omega
  · have hlt : T.countP (fun x => decide (x ∈ m.told.map Prod.fst)) < T.length :=
      List.countP_lt_length_iff.mpr ⟨t, ht, by simpa using habsent hn⟩
    have hlen : m.told.length = m.notices.length := List.length_map ..
    omega
  · have hm' : (enqueueNotice t pl m).told = m.told ++ [(t, pl)] := by simp [Management.told, e]
    refine ⟨?_, by rw [hm']; simp⟩
    have hcount : T.countP (fun x => decide (x ∈ m.told.map Prod.fst)) <
        T.countP (fun x => decide (x ∈ (enqueueNotice t pl m).told.map Prod.fst)) := by
      refine countP_lt_of_mem (fun x hx => ?_) ht (decide_eq_false (habsent hn)) ?_
      · rw [decide_eq_true_eq] at hx ⊢
        rw [hm', List.map_append, List.mem_append]
        exact .inl hx
      · rw [hm']
        simp
    rw [hm', List.length_append, List.length_singleton, ← hm']
    omega

theorem Spare.enqueueAll {T : List Topic} (hT : T.length ≤ 11) {l : List (Topic × NoticePayload)} {m : Management}
    (h : Spare T m) (hl : ∀ x ∈ l, x.1 ∈ T) : Spare T (m.enqueueAll l) := by
  induction l generalizing m with
  | nil => exact h
  | cons x l ih =>
    exact ih (h.enqueue hT (hl x (List.mem_cons_self ..)) x.2).1 (fun y hy => hl y (List.mem_cons_of_mem x hy))

theorem Spare.congr {T : List Topic} {m m' : Management} (h : Spare T m) (e : m'.told = m.told) : Spare T m' := by
  unfold Spare
  rw [e]
  exact h

/-- The last notice of its kind that the list queues. -/
def LastOf (e : Topic × NoticePayload) (l : List (Topic × NoticePayload)) : Prop :=
  ∃ l1 l2, l = l1 ++ e :: l2 ∧ ∀ x ∈ l2, x.1 ≠ e.1

theorem LastOf.append {e : Topic × NoticePayload} {l l' : List (Topic × NoticePayload)} (h : LastOf e (l ++ l')) :
    LastOf e l' ∨ (LastOf e l ∧ ∀ x ∈ l', x.1 ≠ e.1) := by
  obtain ⟨l1, l2, e1, hlast⟩ := h
  rcases List.append_eq_append_iff.mp e1 with ⟨m, rfl, e2⟩ | ⟨m, rfl, e2⟩
  · exact .inl ⟨m, l2, e2, hlast⟩
  · rcases List.cons_eq_append_iff.mp e2 with ⟨rfl, rfl⟩ | ⟨m', rfl, rfl⟩
    · exact .inl ⟨[], l2, rfl, hlast⟩
    · exact .inr ⟨⟨l1, m', rfl, fun x hx => hlast x (List.mem_append_left _ hx)⟩,
        fun x hx => hlast x (List.mem_append_right _ hx)⟩

/-- With room, the last notice of its kind that is queued stands in the queue. -/
theorem Spare.told_last {T : List Topic} (hT : T.length ≤ 11) {l : List (Topic × NoticePayload)} {m : Management}
    (h : Spare T m) (hl : ∀ x ∈ l, x.1 ∈ T) {e : Topic × NoticePayload} (he : LastOf e l) : e ∈ (m.enqueueAll l).told := by
  obtain ⟨l1, l2, rfl, hlast⟩ := he
  rw [enqueueAll_append]
  have h1 := h.enqueueAll hT (l := l1) (fun x hx => hl x (List.mem_append_left _ hx))
  exact told_enqueueAll_keeps (l := l2) (h1.enqueue hT (hl e (by simp)) e.2).2 hlast

/-! ### The boundary's notices stand -/

/-- The kinds that a boundary or step can queue. -/
def boundaryTopics (s : State) : List Topic :=
  .commitApplied :: .timing :: .claimExpired (s.me.claim.holder.getD 0) :: allPorts.map .link

theorem boundaryLog_topics {s : State} {l : List BoundaryAct} {f : Follower} {e : Topic × NoticePayload}
    (h : e ∈ boundaryLog s l f) : e.1 ∈ boundaryTopics s := by
  induction l generalizing f with
  | nil => exact absurd h List.not_mem_nil
  | cons a l ih =>
    rw [boundaryLog, List.mem_append, List.mem_append] at h
    unfold boundaryTopics
    rcases h with (h | h) | h
    · rcases (actLog_mem h).2.2 with ⟨-, e, -⟩ | ⟨p, -, e, -⟩ | ⟨tag, ⟨hh, -⟩, e, -⟩ <;> rw [e]
      · simp
      · simp [mem_allPorts]
      · simp [hh]
    · rw [timingLog_mem h]
      simp
    · exact ih h

section
variable {k : BoundaryKind} {sch pre post : List BoundaryAct} {s u : State}

/-- What the sending makes of ME: nothing is sent, or the first due notice. -/
theorem Sending.sent (h : Sending k sch s u pre post) : ∃ m',
    ((noticeToSend (ageNotices u) = none ∧ m' = { sendingMe s (takeBoundary k sch s) (boundaryLog s pre s.tf) with
        notices := (sendingMe s (takeBoundary k sch s) (boundaryLog s pre s.tf)).aged }) ∨
      ∃ pr n po, noticeToSend (ageNotices u) = some n ∧ FirstDueSent s.nextPart.resend pr n po
        (sendingMe s (takeBoundary k sch s) (boundaryLog s pre s.tf)) m') ∧
    SameNotices m' (boundaryAct (swapOf s) u .send).me := by
  have hme := h.me
  have haged := hme.aged
  obtain ⟨-, hnumber, hover⟩ := hme
  rcases boundaryAct_send_me (swapOf s) u with ⟨hn, e⟩ | ⟨pr, n, po, hn, hfirst, hpre, hdue, e⟩
  · exact ⟨_, .inl ⟨hn, rfl⟩, by rw [e]; exact ⟨haged.symm, hnumber.symm, hover.symm⟩⟩
  · rw [h.part_pt.1] at hpre hdue
    refine ⟨{ sendingMe s (takeBoundary k sch s) (boundaryLog s pre s.tf) with
      notices := pr ++ { n with age := some 0 } :: po, overflow := false }, .inr ⟨pr, n, po, hn, ?_, hpre, hdue, rfl⟩, ?_⟩
    · rw [haged, hfirst]
    · rw [e]
      exact ⟨rfl, hnumber.symm, rfl⟩

/-- The last notice of its kind that the boundary or step queues is announced. -/
theorem takeBoundary_announced (k : BoundaryKind) {sch : List BoundaryAct} {s : State} {e : Topic × NoticePayload}
    (he : LastOf e (boundaryLog s (effectiveSchedule sch) s.tf)) : Announced s (takeBoundary k sch s) e := by
  obtain ⟨pre, post, hsplit⟩ := List.append_of_mem (mem_effectiveSchedule sch .send)
  have h := takeBoundary_sending (k := k) (s := s) hsplit
  generalize runActs (swapOf s) pre (enterPeriod k s) = u at h
  obtain ⟨m', hm', hsame⟩ := h.sent
  have hq := h.queue (hm'.imp (·.2) (fun ⟨pr, n, po, _, hf⟩ => ⟨pr, n, po, hf⟩)) hsame
  rw [← h.log] at he
  refine ⟨⟨_, _, _, _, hq, ?_⟩, fun hroom => ?_⟩
  · obtain ⟨l1, l2, e1, -⟩ := he
    rw [e1]
    simp
  have hT : (boundaryTopics s).length ≤ 11 := Nat.le_refl 11
  have hstart : Spare (boundaryTopics s) (startMe s (takeBoundary k sch s)) :=
    Nat.le_add_right_of_le ((List.length_map ..).trans_le hroom)
  have hbefore := hstart.enqueueAll hT (l := boundaryLog s pre s.tf) (fun x hx => boundaryLog_topics hx)
  have htold : m'.told = (sendingMe s (takeBoundary k sch s) (boundaryLog s pre s.tf)).told := by
    rcases hm' with ⟨-, e⟩ | ⟨pr, n, po, -, hf⟩
    · rw [e, told_aged]
    · exact told_sent hf
  have hlast : e ∈ (m'.enqueueAll (boundaryLog s post u.tf)).told := by
    rcases he.append with h1 | ⟨h1, h2⟩
    · exact (hbefore.congr htold).told_last hT (fun x hx => boundaryLog_topics hx) h1
    · refine told_enqueueAll_keeps ?_ h2
      rw [htold]
      exact hstart.told_last hT (fun x hx => boundaryLog_topics hx) h1
  have hend : e ∈ (takeBoundary k sch s).me.told := by
    rw [told_of_same ((hsame.enqueueAll _).trans h.after)]
    exact hlast
  obtain ⟨n, hn, e'⟩ := List.mem_map.mp hend
  exact ⟨n, hn, congrArg Prod.fst e', congrArg Prod.snd e'⟩

end

theorem mem_boundaryLog {s : State} {l : List BoundaryAct} {f : Follower} {e : Topic × NoticePayload}
    (hne : e.1 ≠ .timing) : e ∈ boundaryLog s l f ↔ e ∈ l.flatMap (actLog s) := by
  rw [← boundaryLog_filter s l f, List.mem_filter]
  simp [hne]

/-- A notice beside TIMING is queued once, and no other of its kind is. -/
theorem lastOf_other {sch : List BoundaryAct} {s : State} {e : Topic × NoticePayload} (hne : e.1 ≠ .timing)
    (he : (s.banks.state = .armed ∧ e.1 = .commitApplied ∧ e.2 = .nothing) ∨
      (∃ p, swapDrops s p = true ∧ e.1 = .link p ∧ e.2 = .link false) ∨
      (∃ tag, LeaseEnds s tag ∧ e.1 = .claimExpired tag ∧ e.2 = .nothing)) :
    LastOf e (boundaryLog s (effectiveSchedule sch) s.tf) := by
  have hmem := (mem_boundaryLog (f := s.tf) hne).mpr ((mem_flatMap_actLog s (mem_effectiveSchedule sch) e).mpr he)
  have hnodup : ((boundaryLog s (effectiveSchedule sch) s.tf).filter (fun e => e.1 != .timing)).Nodup := by
    rw [boundaryLog_filter]
    exact flatMap_actLog_nodup s (effectiveSchedule_orderly sch).1
  obtain ⟨l1, l2, e1⟩ := List.append_of_mem hmem
  refine ⟨l1, l2, e1, fun x hx hxe => ?_⟩
  have hxmem : x ∈ boundaryLog s (effectiveSchedule sch) s.tf := by rw [e1]; simp [hx]
  have hx2 : x = e := by
    have h' := (mem_flatMap_actLog s (mem_effectiveSchedule sch) x).mp
      ((mem_boundaryLog (f := s.tf) (by rw [hxe]; exact hne)).mp hxmem)
    refine Prod.ext hxe ?_
    rw [hxe] at h'
    rcases he with ⟨-, e1, e2⟩ | ⟨p, -, e1, e2⟩ | ⟨tag, -, e1, e2⟩ <;> rw [e1] at h' <;>
      rcases h' with ⟨-, e3, e4⟩ | ⟨p', -, e3, e4⟩ | ⟨tag', -, e3, e4⟩ <;> first | exact e4.trans e2.symm | cases e3
  rw [e1, List.filter_append, List.filter_cons_of_pos (by simpa using hne)] at hnodup
  have hdup := (List.nodup_cons.mp (List.nodup_append.mp hnodup).2.1).1
  exact hdup (List.mem_filter.mpr ⟨hx2 ▸ hx, by simpa using hne⟩)

theorem lastOf_of_filter {e : Topic × NoticePayload} {l pre : List (Topic × NoticePayload)} {p : Topic × NoticePayload → Bool}
    (h : l.filter p = pre ++ [e]) (hp : ∀ x, x.1 = e.1 → p x = true) : LastOf e l := by
  obtain ⟨l1, l2, rfl, -, h2⟩ := List.filter_eq_append_iff.mp h
  obtain ⟨l3, l4, rfl, -, -, h4⟩ := List.filter_eq_cons_iff.mp h2
  refine ⟨l1 ++ l3, l4, by simp, fun x hx hxe => ?_⟩
  exact List.filter_eq_nil_iff.mp h4 x hx (hp x hxe)

/-- A change of the timing state over a boundary or step is announced. -/
theorem takeBoundary_announces_timing {k : BoundaryKind} {sch : List BoundaryAct} {s : State}
    (h : (takeBoundary k sch s).tf.state ≠ s.tf.state) :
    Announced s (takeBoundary k sch s) (.timing, .timing (takeBoundary k sch s).tf.state) := by
  refine takeBoundary_announced k ?_
  obtain ⟨-, -, -, hchange⟩ := boundaryLog_due k sch s
  rcases hchange h with e | ⟨-, -, -, -, -, e⟩
  · exact lastOf_of_filter (pre := []) e (fun x hx => by simpa using hx)
  · exact lastOf_of_filter (pre := [_]) e (fun x hx => by simpa using hx)

/-! ### The swap (R20, R77, R122, R125) -/

theorem takeBoundary_banks {k : BoundaryKind} {sch : List BoundaryAct} {s : State} (h : s.banks.state = .armed) :
    (takeBoundary k sch s).banks = { s.banks with
      active := s.banks.shadow, shadow := s.banks.active, state := .refresh, copyPos := 0, copyAge := 0 } := by
  rw [(takeBoundary_frame k sch s).2.2.2.1]
  rcases afterSwap_banks s with ⟨-, e⟩ | ⟨hn, -⟩
  · exact e
  · exact absurd h hn

theorem takeBoundary_stream {k : BoundaryKind} {sch : List BoundaryAct} {s : State} (h : s.banks.state = .armed)
    (i : StreamId) : (takeBoundary k sch s).streams[i] =
      if s.banks.touchedStreams[i] then { s.streams[i] with lastSeq := none } else s.streams[i] := by
  have e : afterSwap s = swapBanks s := if_pos h
  simp only [(takeBoundary_frame k sch s).2.2.1, e]
  exact Vector.getElem_ofFn _

theorem takeBoundary_group_touched {k : BoundaryKind} {sch : List BoundaryAct} {s : State} {g : GroupId}
    (h : s.banks.state = .armed) (ht : s.banks.touchedGroups[g] = true) :
    (takeBoundary k sch s).groups[g] = resetTouchedGroup s.banks.shadow.groups[g] s.groups[g] := by
  rw [takeBoundary_group, enterPeriod_group, if_pos ⟨h, ht⟩]

/-- Settles O18. -/
theorem boundarySwapsArmedBanks : Obligations.BoundarySwapsArmedBanks := by
  intro s c sch hb ha
  obtain ⟨k, x, he⟩ := exec_begins hb
  have hu : (s.withCopyAge x).banks.state = .armed := ha
  have hbanks := takeBoundary_banks (k := k) (sch := sch) hu
  obtain ⟨-, -, -, -, hpending, hreq, hreset⟩ := takeBoundary_frame k sch (s.withCopyAge x)
  refine ⟨_, he, by rw [hbanks]; rfl, by rw [hbanks]; rfl, by rw [hbanks], by rw [hbanks], by rw [hbanks]; rfl,
    by rw [hbanks]; rfl, by rw [hbanks]; rfl, fun g ht => ?_, fun g ht => ?_, fun i => ?_,
    takeBoundary_announced k (lastOf_other (e := (.commitApplied, .nothing)) (by simp) (.inl ⟨hu, rfl, rfl⟩)), hpending, hreq, hreset,
    fun b => ((takeBoundary_returned k sch (s.withCopyAge x)).1 b).1,
    takeBoundary_followerKept k sch (s.withCopyAge x)⟩
  · rw [takeBoundary_group_touched hu ht]
    refine ⟨rfl, rfl, fun i => ⟨Vector.getElem_replicate _, Vector.getElem_replicate _⟩, rfl, rfl, fun hen => ?_, fun hen => ?_⟩
    · have hen' : (s.withCopyAge x).banks.shadow.groups[g].enabled = true := hen
      simp only [resetTouchedGroup, hen', if_true]
      exact ⟨trivial, isIdentity_identityResult _⟩
    · have hen' : (s.withCopyAge x).banks.shadow.groups[g].enabled = false := hen
      simp only [resetTouchedGroup, hen', Bool.false_eq_true, if_false]
      exact ⟨trivial, _, rfl⟩
  · have ht' : ¬ (s.withCopyAge x).banks.touchedGroups[g] = true := Bool.eq_false_iff.mp ht
    rw [takeBoundary_group, enterPeriod_group, if_neg (fun e => ht' e.2)]
    exact ⟨fun hd => if_pos hd, fun hd => if_neg hd⟩
  · rw [takeBoundary_stream hu]
    refine ⟨by split <;> rfl, fun ht => ?_, fun ht => ?_⟩
    · rw [if_pos (by exact ht)]
    · rw [if_neg (by exact Bool.eq_false_iff.mp ht)]
      rfl

/-- The sum over the ports that a swap drops, over any list of them. -/
theorem sum_dropped {s : State} (f : Port → Nat) {l : List Port} (hl : l.Nodup) (hmem : ∀ p, p ∈ l ↔ swapDrops s p = true) :
    (allPorts.map (fun p => if swapDrops s p then f p else 0)).sum = (l.map f).sum := by
  have hperm : (allPorts.filter (swapDrops s)).Perm l :=
    (List.perm_ext_iff_of_nodup (allPorts_nodup.filter _) hl).mpr (fun p => by simp [mem_allPorts, hmem])
  rw [← (hperm.map f).sum_eq]
  generalize allPorts = ps
  induction ps with
  | nil => rfl
  | cons p ps ih =>
    rw [List.map_cons, List.sum_cons, ih, List.filter_cons]
    split
    · rw [List.map_cons, List.sum_cons]
    · rw [Nat.zero_add]

/-- Settles O19. -/
theorem swapFollowsPortEnable : Obligations.SwapFollowsPortEnable := by
  intro s c sch hb ha
  obtain ⟨k, x, he⟩ := exec_begins hb
  have hu : (s.withCopyAge x).banks.state = .armed := ha
  have hdrop : ∀ p, swapDrops (s.withCopyAge x) p = true ↔ SwapDrops s p := fun p =>
    (swapDrops_iff _ p).trans (and_iff_right hu)
  obtain ⟨hpool, hslots⟩ := takeBoundary_returned k sch (s.withCopyAge x)
  refine ⟨_, he, fun p => ?_, fun l b hl hmem => ?_, fun r => ⟨fun ⟨p, hd, hr⟩ => ?_, fun hn => ?_⟩⟩
  · have hgrew := takeBoundary_port_grew k sch (s.withCopyAge x) p
    have hstill := takeBoundary_port_not_up (k := k) (sch := sch) (s := s.withCopyAge x) (p := p)
    have hfollowed : (s.withCopyAge x).followed p = s.ports[p].followed
        (inPortList s.banks.active.part.portEnable p) (inPortList s.banks.shadow.part.portEnable p) := by
      rw [State.followed, nextPart_of_armed hu]
      rfl
    rw [hfollowed] at hgrew hstill
    refine ⟨?_, fun hd => ⟨?_, ?_⟩, fun hwas hnow hl => ?_, fun hwas hnow => ?_, fun hsame => ?_⟩
    · obtain ⟨l, tx, skip, e, -⟩ := hgrew
      rw [e]
      exact PortState.followed_signal ..
    · obtain ⟨hwas, hnow, hup⟩ := hd
      rw [hwas, hnow, PortState.followed_out hup] at hstill
      rw [hstill nofun]
      exact portDropped_dropped .down s.ports[p]
    · exact takeBoundary_announced k (lastOf_other (e := (.link p, .link false)) (by simp)
        (.inr (.inl ⟨p, (hdrop p).mpr hd, rfl, rfl⟩)))
    · rw [hwas, hnow, PortState.followed_out_not_up hl] at hstill
      exact hstill nofun
    · rw [hwas, hnow, PortState.followed_in] at hgrew hstill
      refine ⟨hgrew, fun hl => hstill ?_⟩
      dsimp only
      split
      · nofun
      · exact hl
    · rw [hsame, PortState.followed_same] at hgrew
      exact hgrew
  · obtain ⟨hcell, hrefs⟩ := hpool b
    refine ⟨hcell, hrefs.trans ?_⟩
    rw [sum_dropped (fun p => (s.withCopyAge x).ports[p].data.count b) hl (fun p => (hmem p).trans (hdrop p).symm)]
    rfl
  · exact (hslots r).1 ⟨p, (hdrop p).mpr hd, hr⟩
  · exact (hslots r).2 (fun p hd => hn p ((hdrop p).mp hd))

/-! ### The lease and the silent check -/

/-- Settles O21. -/
theorem boundaryCountsTheLease : Obligations.BoundaryCountsTheLease := by
  intro s c sch hb
  obtain ⟨k, x, he⟩ := exec_begins hb
  obtain ⟨pre, post, hsplit⟩ := List.append_of_mem (mem_effectiveSchedule sch .send)
  obtain ⟨-, hclaim, hcache⟩ := (takeBoundary_sending (k := k) (s := s.withCopyAge x) hsplit).claim
  have hme : (s.withCopyAge x).me = s.me := rfl
  rw [hme] at hclaim hcache
  refine ⟨_, he, fun hnone => ?_, fun tag htag => ⟨fun hlease => ?_, fun hlease => ?_⟩⟩
  · rw [hclaim, hcache]
    simp [Claim.counted, Claim.ends, hnone]
  · have hends : s.me.claim.ends = false := by simp [Claim.ends, htag]; omega
    rw [hclaim, hcache]
    simp [Claim.counted, hends, htag]
  · have hends : s.me.claim.ends = true := by simp [Claim.ends, htag, hlease]
    rw [hclaim, hcache]
    refine ⟨by simp [Claim.counted, hends], by simp [hends], ?_⟩
    exact takeBoundary_announced k (lastOf_other (s := s.withCopyAge x) (e := (.claimExpired tag, .nothing)) (by simp)
      (.inr (.inr ⟨tag, ⟨htag, hlease.le⟩, rfl, rfl⟩)))

theorem silentChecked_check {w : Swap} {r : PartRec} {f : Follower} (h : skipsSilentCheck w r = false) :
    SilentChecked f (f.check w r) := by
  unfold Follower.check
  refine ⟨fun hf => if_pos (.inr hf), fun hl h8 => ?_, fun hf hn => ?_⟩
  · rw [if_neg, if_pos ⟨hl, h8⟩]
    rintro (e | e)
    · exact absurd (h.symm.trans e) nofun
    · exact absurd (hl.symm.trans e) nofun
  · rw [if_neg, if_neg hn]
    rintro (e | e)
    · exact absurd (h.symm.trans e) nofun
    · exact hf e

/-- Where the swap neither touches the Part record nor drops the timing port, TF makes its silent check alone. -/
theorem takeBoundary_silentChecked {k : BoundaryKind} {sch : List BoundaryAct} {s : State}
    (h : s.banks.state = .armed → s.banks.touchedPart = false ∧
      (inPortList s.banks.shadow.part.portEnable s.part.timingPort = true ∨ s.ports[s.part.timingPort].link ≠ .up)) :
    SilentChecked s.tf (takeBoundary k sch s).tf := by
  have hskip : ((swapOf s).taken && (swapOf s).partTouched) = false := by
    by_cases ha : s.banks.state = .armed
    · simp [swapOf, (h ha).1]
    · simp [swapOf, ha]
  have hlost : (swapOf s).timingLost = false := by
    by_cases ha : s.banks.state = .armed
    · rcases (h ha).2 with e | e
      · simp [swapOf, e]
      · simp [swapOf, State.isUp]
        intro _ e'
        exact absurd e' e
    · simp [swapOf, ha]
  have hr : ∀ f : Follower, f.reevaluate (swapOf s) s.nextPart = f := fun f => by simp [Follower.reevaluate, hskip]
  have hl : ∀ f : Follower, f.lose (swapOf s) = f := fun f => by simp [Follower.lose, hlost]
  have hcheck : skipsSilentCheck (swapOf s) s.nextPart = false := by simp [skipsSilentCheck, hskip]
  rcases takeBoundary_tf k sch s with e | e <;> rw [e]
  · rw [hr, hl]
    exact silentChecked_check hcheck
  · rw [hl, hr]
    exact silentChecked_check hcheck

/-- Settles O22. -/
theorem boundaryMakesTheSilentCheck : Obligations.BoundaryMakesTheSilentCheck := by
  intro s c sch hb h
  obtain ⟨k, x, he⟩ := exec_begins hb
  have hcheck := takeBoundary_silentChecked (k := k) (sch := sch) (s := s.withCopyAge x) h
  refine ⟨_, he, hcheck, fun hl h8 => ?_⟩
  have hstate : (takeBoundary k sch (s.withCopyAge x)).tf.state = .holdover := by rw [hcheck.2.1 hl h8]
  have hann := takeBoundary_announces_timing (k := k) (sch := sch) (s := s.withCopyAge x) (by
    rw [hstate]
    exact fun e => absurd (e.trans hl) nofun)
  rw [hstate] at hann
  exact hann

/-- A re-evaluation that fixes the new state by itself: the loss of the timing port and the silent check change nothing. -/
theorem follower_of_reset {w : Swap} {r : PartRec} (f : Follower) {st : TimingState} {b : Bool}
    (htaken : (w.taken && w.partTouched) = true) (hr : ∀ t, reevaluated w.old r t = (st, b)) (hst : st ≠ .locked)
    (hskip : skipsSilentCheck w r = true ∨ st = .free) {f' : Follower}
    (h : f' = ((f.reevaluate w r).lose w).check w r ∨ f' = ((f.lose w).reevaluate w r).check w r) :
    f' = if b then { f with state := st, miss := 0, silent := 0, seen := false } else { f with state := st } := by
  have hre : ∀ g : Follower, g.reevaluate w r =
      if b then { g with state := st, miss := 0, silent := 0, seen := false } else { g with state := st } := by
    intro g
    unfold Follower.reevaluate
    rw [if_pos htaken, hr]
  have hstate : ∀ g : Follower, (g.reevaluate w r).state = st := by
    intro g
    rw [hre]
    split <;> rfl
  have hlose : ∀ g : Follower, (g.reevaluate w r).lose w = g.reevaluate w r := fun g =>
    if_neg (fun e => hst ((hstate g).symm.trans e.2))
  have hcheck : ∀ g : Follower, (g.reevaluate w r).check w r = g.reevaluate w r := fun g =>
    if_pos (hskip.imp_right (hstate g).trans)
  have hsame : (f.lose w).reevaluate w r = f.reevaluate w r := by
    by_cases hl : w.timingLost = true ∧ f.state = .locked
    · rw [show f.lose w = { f with state := .holdover } from if_pos hl, hre, hre]
    · rw [show f.lose w = f from if_neg hl]
  rcases h with h | h
  · rw [h, hlose, hcheck, hre]
  · rw [h, hcheck, hsame, hre]

/-- A re-evaluation that keeps source and timing_port: the loss of the timing port comes before the silent check. -/
theorem follower_of_kept {w : Swap} {r : PartRec} (f : Follower) (hr : ∀ t, reevaluated w.old r t = (t, false))
    (hskip : skipsSilentCheck w r = false) {f' : Follower}
    (h : f' = ((f.reevaluate w r).lose w).check w r ∨ f' = ((f.lose w).reevaluate w r).check w r) :
    (f.state = .locked → w.timingLost = true → SilentChecked { f with state := .holdover } f') ∧
    (¬ (f.state = .locked ∧ w.timingLost = true) → SilentChecked f f') := by
  have hre : ∀ g : Follower, g.reevaluate w r = g := by
    intro g
    unfold Follower.reevaluate
    split
    · rw [hr]
      rfl
    · rfl
  have hf' : f' = (f.lose w).check w r := by
    rcases h with h | h <;> rw [h, hre]
  rw [hf']
  refine ⟨fun hl hlost => ?_, fun hn => ?_⟩
  · rw [show f.lose w = { f with state := .holdover } from if_pos ⟨hlost, hl⟩]
    exact silentChecked_check hskip
  · rw [show f.lose w = f from if_neg (fun e => hn ⟨e.2, e.1⟩)]
    exact silentChecked_check hskip

/-- Settles O20. -/
theorem swapReevaluatesTiming : Obligations.SwapReevaluatesTiming := by
  intro s c sch hb ha ht
  obtain ⟨k, x, he⟩ := exec_begins hb
  refine ⟨_, he, ?_⟩
  dsimp only
  have hann := takeBoundary_announces_timing (k := k) (sch := sch) (s := s.withCopyAge x)
  have htf := takeBoundary_tf k sch (s.withCopyAge x)
  generalize takeBoundary k sch (s.withCopyAge x) = t at hann htf
  have hnew : (s.withCopyAge x).nextPart = s.banks.shadow.part := nextPart_of_armed (s := s.withCopyAge x) ha
  rw [hnew] at htf
  have htaken : ((swapOf (s.withCopyAge x)).taken && (swapOf (s.withCopyAge x)).partTouched) = true := by
    simp [swapOf, State.withCopyAge, ha, ht]
  have hold : (swapOf (s.withCopyAge x)).old = s.banks.active.part := rfl
  have hlost : (swapOf (s.withCopyAge x)).timingLost = true ↔ s.ports[s.banks.active.part.timingPort].link = .up ∧
      inPortList s.banks.shadow.part.portEnable s.banks.active.part.timingPort = false := by
    simp [swapOf, State.withCopyAge, ha, State.isUp, State.part]
  have hskip : skipsSilentCheck (swapOf (s.withCopyAge x)) s.banks.shadow.part =
      (s.banks.shadow.part.source == .follow && (s.banks.active.part.source == .free ||
        s.banks.active.part.timingPort != s.banks.shadow.part.timingPort)) := by
    unfold skipsSilentCheck
    rw [htaken, hold, Bool.true_and]
  have htf0 : (s.withCopyAge x).tf = s.tf := rfl
  rw [htf0] at htf
  generalize swapOf (s.withCopyAge x) = w at *
  refine ⟨fun ho hn => ?_, fun ho hn => ?_, fun ho hn => ?_, fun ho hn hp => ?_, fun ho hn hp => ?_, hann⟩
  · exact follower_of_reset (st := .free) (b := false) s.tf htaken (fun t => by simp only [reevaluated, hold, ho, hn]) nofun (.inr rfl) htf
  · exact follower_of_reset (st := .acquire) (b := true) s.tf htaken (fun t => by simp only [reevaluated, hold, ho, hn]) nofun
      (.inl (by rw [hskip, ho, hn]; rfl)) htf
  · exact follower_of_reset (st := .free) (b := true) s.tf htaken (fun t => by simp only [reevaluated, hold, ho, hn]) nofun (.inr rfl) htf
  · exact follower_of_reset (st := .acquire) (b := true) s.tf htaken (fun t => by simp only [reevaluated, hold, ho, hn, if_neg hp]) nofun
      (.inl (by rw [hskip, ho, hn]; simp [hp])) htf
  · rw [← hlost]
    exact follower_of_kept s.tf (fun t => by simp only [reevaluated, hold, ho, hn, if_pos hp])
      (by rw [hskip, ho, hn]; simp [hp]) htf

end Sys2Proof.Machine
end

section
/-!
The sending of a boundary or step (R182, R183): the copy on the holder's port, beside the SYNC cell (O24).
-/

namespace Sys2Proof.Machine

/-! ### The two orders of the SYNC cells and the sending -/

/-- The SYNC cells come before the sending, or after it. -/
def SendShape (k : BoundaryKind) (sch : List BoundaryAct) (s u : State) : Prop :=
  ((∀ p : Port, SyncStep s s.nextPart (takeBoundary k sch s).pt.period p (s.followed p) u.ports[p]) ∧
    ∀ p : Port, (takeBoundary k sch s).ports[p] = (boundaryAct (swapOf s) u .send).ports[p]) ∨
  ((∀ p : Port, u.ports[p] = s.followed p) ∧
    ∀ p : Port, SyncStep s s.nextPart (takeBoundary k sch s).pt.period p (boundaryAct (swapOf s) u .send).ports[p]
      (takeBoundary k sch s).ports[p])

theorem takeBoundary_sendShape (k : BoundaryKind) (sch : List BoundaryAct) (s : State) :
    ∃ pre post u, Sending k sch s u pre post ∧ SendShape k sch s u := by
  obtain ⟨A, B, C, x, y, h⟩ := effectiveSchedule_cut sch
  have hports := (h.follow k s).1
  have hafter : ∀ l, (∀ a ∈ l, a = .silent) → ∀ v : State, (runActs (swapOf s) l v).ports = v.ports :=
    fun l hl v => (runActs_trailing (fun a ha => .inr (hl a ha)) v).1
  rcases h.acts with ⟨rfl, rfl⟩ | ⟨rfl, rfl⟩
  · have hs := takeBoundary_sending (k := k) (s := s) (pre := A ++ .syncOut :: B) (post := C) (by rw [h.eq]; simp)
    refine ⟨_, _, _, hs, .inl ⟨fun p => ?_, fun p => ?_⟩⟩
    · have hu : runActs (swapOf s) (A ++ .syncOut :: B) (enterPeriod k s) = runActs (swapOf s) B
          (boundaryAct (swapOf s) (runActs (swapOf s) A (enterPeriod k s)) .syncOut) := by
        rw [runActs, List.foldl_append, List.foldl_cons]
        rfl
      have hstep := boundaryAct_syncOut_ports (swapOf s) s (runActs (swapOf s) A (enterPeriod k s)) p
      rw [hports p, (runActs_part_pt ..).1, (runActs_part_pt ..).2, enterPeriod_part, enterPeriod_pt] at hstep
      rw [takeBoundary_pt]
      simp only [hu, (runActs_trailing h.between _).1]
      exact hstep
    · simp only [hs.done, hafter C h.after]
  · have hs := takeBoundary_sending (k := k) (s := s) (pre := A) (post := B ++ .syncOut :: C) h.eq
    refine ⟨_, _, _, hs, .inr ⟨hports, fun p => ?_⟩⟩
    generalize runActs (swapOf s) A (enterPeriod k s) = u at hs
    have hrun : takeBoundary k sch s = runActs (swapOf s) C (boundaryAct (swapOf s)
        (runActs (swapOf s) B (boundaryAct (swapOf s) u .send)) .syncOut) := by
      rw [hs.done, runActs, List.foldl_append, List.foldl_cons]
      rfl
    have hstep := boundaryAct_syncOut_ports (swapOf s) s
      (runActs (swapOf s) B (boundaryAct (swapOf s) u .send)) p
    have hpt : (boundaryAct (swapOf s) u .send).pt = u.pt := by simp
    rw [(runActs_part_pt ..).1, (runActs_part_pt ..).2, boundaryAct_part, hpt, hs.part_pt.1, hs.part_pt.2] at hstep
    simp only [hafter B (h.sent rfl)] at hstep
    have hlast : (takeBoundary k sch s).ports = (boundaryAct (swapOf s)
        (runActs (swapOf s) B (boundaryAct (swapOf s) u .send)) .syncOut).ports := by rw [hrun, hafter C h.after]
    simp only [hlast]
    exact hstep

/-! ### The sending at the ports -/

theorem send_ports_none {w : Swap} {u : State} (h : noticeToSend (ageNotices u) = none) (p : Port) :
    (boundaryAct w u .send).ports[p] = u.ports[p] := by
  simp only [boundaryAct, sendNotice_none h, ageNotices_ports]

/-- The copy of the notice `n` that the sending makes in state `u`. -/
def copyOf (u : State) (n : Notice) : ControlEntry :=
  .notice ⟨n, u.me.claim.noticeId, u.pt.period, u.me.overflow⟩

theorem send_ports_some {w : Swap} (s : State) {u : State} {n : Notice} (h : noticeToSend (ageNotices u) = some n)
    (p : Port) : (p ≠ u.me.claim.port → (boundaryAct w u .send).ports[p] = u.ports[p]) ∧
    (p = u.me.claim.port →
      Grew s u.ports[p] (boundaryAct w u .send).ports[p] [copyOf u n] u.ports[p].counters.syncSkip) := by
  have hact : (boundaryAct w u .send).ports[p] = (appendControl u.me.claim.port (copyOf u n)
      ((ageNotices u).modMe (fun m =>
        { m with notices := markSent u.part.resend m.notices, overflow := false }))).ports[p] := by
    simp only [boundaryAct, sendNotice_some h]
    rfl
  rw [hact, appendControl_ports]
  refine ⟨fun hne => by rw [if_neg (by exact hne)]; rfl, fun e => ?_⟩
  rw [if_pos (by exact e)]
  have hup := (noticeToSend_aged h).1.2.2.1
  subst e
  exact Grew.append (by simp [copyOf]) hup _ _

/-! ### The parts of the statement -/

/-- No notice is appended on port `p`, unless the swap drops it. -/
def SilentOn (s t : State) (p : Port) : Prop :=
  (s.banks.state = .armed → ¬ SwapDrops s p) →
    ∃ l, t.ports[p].control = s.ports[p].control ++ l ∧ ∀ n, ControlEntry.notice n ∉ l

theorem silentOn_of_syncStep {s t : State} {r : PartRec} {n : Half} {p : Port}
    (h : SyncStep s r n p (s.followed p) t.ports[p]) : SilentOn s t p := by
  intro hd
  obtain ⟨link, hl, -⟩ := followed_of_kept hd
  have hcontrol : (s.followed p).control = s.ports[p].control := by rw [hl]
  obtain ⟨hroom, hfull, hoff⟩ := h
  by_cases hon : syncsOn r p (s.followed p)
  · by_cases hlen : (s.followed p).control.length < 4
    · exact ⟨_, by rw [(hroom hon hlen).control, hcontrol], fun n => by simp⟩
    · exact ⟨[], by rw [(hfull hon (by omega)).control, hcontrol], fun n => List.not_mem_nil⟩
  · exact ⟨[], by rw [hoff hon, hcontrol, List.append_nil], fun n => List.not_mem_nil⟩

section
variable {k : BoundaryKind} {sch pre post : List BoundaryAct} {s u : State}

/-- Where nothing is sent, and on every port but the holder's, no notice is appended. -/
theorem SendShape.silentOn (h : SendShape k sch s u) {p : Port}
    (hp : (boundaryAct (swapOf s) u .send).ports[p] = u.ports[p]) : SilentOn s (takeBoundary k sch s) p := by
  rcases h with ⟨hsync, hlast⟩ | ⟨hfirst, hsync⟩
  · refine silentOn_of_syncStep (r := s.nextPart) (n := (takeBoundary k sch s).pt.period) ?_
    rw [hlast, hp]
    exact hsync p
  · refine silentOn_of_syncStep (r := s.nextPart) (n := (takeBoundary k sch s).pt.period) ?_
    have := hsync p
    rwa [hp, hfirst] at this

/-- The first due notice is one. -/
theorem firstDue_unique {resend : Nat} {l pre post pre' post' : List Notice} {n n' : Notice} (h : l = pre ++ n :: post)
    (hpre : ∀ x ∈ pre, ¬ x.Due resend) (hn : n.Due resend) (h' : l = pre' ++ n' :: post')
    (hpre' : ∀ x ∈ pre', ¬ x.Due resend) (hn' : n'.Due resend) : pre' = pre ∧ n' = n ∧ post' = post := by
  subst h
  rcases List.append_eq_append_iff.mp h' with ⟨m, rfl, e⟩ | ⟨m, rfl, e⟩
  · rcases List.cons_eq_append_iff.mp e with ⟨rfl, e⟩ | ⟨m', rfl, -⟩
    · obtain ⟨rfl, rfl⟩ := List.cons_eq_cons.mp e
      exact ⟨by simp, rfl, rfl⟩
    · exact absurd hn (hpre' n (by simp))
  · rcases List.cons_eq_append_iff.mp e with ⟨rfl, e⟩ | ⟨m', rfl, -⟩
    · obtain ⟨rfl, rfl⟩ := List.cons_eq_cons.mp e
      exact ⟨by simp, rfl, rfl⟩
    · exact absurd hn' (hpre n' (by simp))

/-- The holder can take a notice, as the boundary finds it. -/
def HolderReady (s : State) : Prop :=
  s.me.claim.holder ≠ none ∧ (∀ tag, ¬ LeaseEnds s tag) ∧
  inPortList s.nextPart.portEnable s.me.claim.port = true ∧ s.ports[s.me.claim.port].link = .up

theorem counted_holder_iff (s : State) :
    s.me.claim.counted.holder ≠ none ↔ s.me.claim.holder ≠ none ∧ ∀ tag, ¬ LeaseEnds s tag := by
  rw [Claim.counted_holder, Claim.ends]
  rcases hh : s.me.claim.holder with _ | tag
  · simp
  · by_cases hl : s.me.claim.lease ≤ 1
    · have : LeaseEnds s tag := ⟨hh, hl⟩
      simp only [hl, decide_true, Bool.and_true, Option.isSome_some, if_true, ne_eq, not_true, false_iff, not_and, not_forall,
        not_not]
      exact fun _ => ⟨tag, this⟩
    · simp [hl, LeaseEnds]

theorem HolderReady.followed (h : HolderReady s) : s.followed s.me.claim.port = s.ports[s.me.claim.port] := by
  obtain ⟨-, -, hen, hup⟩ := h
  have hdrop : s.banks.state = .armed → ¬ SwapDrops s s.me.claim.port := fun ha ⟨_, hout, _⟩ => by
    rw [nextPart_of_armed ha] at hen
    exact absurd (hen.symm.trans hout) nofun
  obtain ⟨l, hl, hiff⟩ := followed_of_kept hdrop
  rw [hl, hiff.mpr hup, ← hup]

theorem SendShape.port_link (hshape : SendShape k sch s u) (p : Port) :
    u.ports[p].link = (s.followed p).link ∧ (s.followed p).control.length ≤ u.ports[p].control.length := by
  rcases hshape with ⟨hsync, -⟩ | ⟨hfirst, -⟩
  · obtain ⟨hroom, hfull, hoff⟩ := hsync p
    by_cases hon : syncsOn s.nextPart p (s.followed p)
    · by_cases hlen : (s.followed p).control.length < 4
      · have hg := hroom hon hlen
        exact ⟨hg.link, by rw [hg.control]; simp⟩
      · have hg := hfull hon (by omega)
        exact ⟨hg.link, by rw [hg.control]; simp⟩
    · rw [hoff hon]
      exact ⟨rfl, Nat.le_refl _⟩
  · rw [hfirst]
    exact ⟨rfl, Nat.le_refl _⟩

/-- What is sent, is sent by a holder that is ready, with a place in CONTROL. -/
theorem Sending.ready (h : Sending k sch s u pre post) (hshape : SendShape k sch s u) {n : Notice}
    (hn : noticeToSend (ageNotices u) = some n) :
    HolderReady s ∧ s.ports[s.me.claim.port].control.length < 4 := by
  obtain ⟨⟨hholder, hen, hup, hroom⟩, -⟩ := noticeToSend_aged hn
  have hclaim := h.claim.1
  rw [State.enabled, h.part_pt.1] at hen
  simp only [hclaim] at hholder hen hup hroom
  rw [s.me.claim.counted_port.1] at hen
  have hport : u.ports[s.me.claim.counted.port] = u.ports[s.me.claim.port] := by
    simp only [s.me.claim.counted_port.1]
  rw [hport] at hup hroom
  obtain ⟨hlink, hlen⟩ := hshape.port_link s.me.claim.port
  rw [hlink] at hup
  obtain ⟨h1, h2⟩ := (counted_holder_iff s).mp hholder
  have hupS : s.ports[s.me.claim.port].link = .up := by
    have hfollowed : s.followed s.me.claim.port =
        s.ports[s.me.claim.port].followed (inPortList s.part.portEnable s.me.claim.port) true := by
      rw [State.followed, hen]
    obtain ⟨l, hl, hiff⟩ := PortState.followed_kept (q := s.ports[s.me.claim.port])
      (was := inPortList s.part.portEnable s.me.claim.port) (now := true) (fun e => nomatch e.2.1)
    rw [hfollowed, hl] at hup
    exact hiff.mp hup
  have hready : HolderReady s := ⟨h1, h2, hen, hupS⟩
  rw [hready.followed] at hlen
  exact ⟨hready, by omega⟩

/-- A port once the entries `l` have been appended to its CONTROL, and what its transmitter starts (R100). -/
def Appended (s : State) (q q' : PortState) (l : List ControlEntry) : Prop :=
  q'.control = q.control ++ l ∧ (q.tx ≠ .idle → q'.tx = q.tx) ∧
  (q.tx = .idle → q.control = [] → ∀ x xs, l = x :: xs → q'.tx = .sending .control (controlCell s x))

theorem Grew.appended {q q' : PortState} {l : List ControlEntry} {i : Counter} (h : Grew s q q' l i) :
    Appended s q q' l := ⟨h.control, fun hb => h.kept (.inl hb), h.started⟩

/-- The holder's port, ready and with a notice due: the copy and the SYNC cell in either order, the last place to either. -/
theorem SendShape.ready_port (h : Sending k sch s u pre post) (hshape : SendShape k sch s u) (hready : HolderReady s)
    {n : Notice} (hn : u.me.aged.find? (noticeDue s.nextPart.resend) = some n) :
    let q := s.ports[s.me.claim.port]
    let q' := (takeBoundary k sch s).ports[s.me.claim.port]
    let sync := ControlEntry.sync s.nextPart.syncId (takeBoundary k sch s).pt.period
    let sent := fun l => noticeToSend (ageNotices u) = some n ∧ Appended s q q' l
    (¬ inPortList s.nextPart.syncOut s.me.claim.port = true → q.control.length ≤ 3 → sent [copyOf u n]) ∧
    (inPortList s.nextPart.syncOut s.me.claim.port = true → q.control.length ≤ 2 →
      sent [copyOf u n, sync] ∨ sent [sync, copyOf u n]) ∧
    (inPortList s.nextPart.syncOut s.me.claim.port = true → q.control.length = 3 →
      sent [copyOf u n] ∨ noticeToSend (ageNotices u) = none) := by
  dsimp only
  have hfollowed := hready.followed
  obtain ⟨hholder, hlease, hen, hup⟩ := hready
  have hport : u.me.claim.port = s.me.claim.port := by rw [h.claim.1, s.me.claim.counted_port.1]
  have hsends : u.ports[s.me.claim.port].control.length < 4 → noticeToSend (ageNotices u) = some n := by
    intro hroom
    have hcond : (ageNotices u).me.claim.holder ≠ none ∧ (ageNotices u).enabled (ageNotices u).me.claim.port = true ∧
        (ageNotices u).ports[(ageNotices u).me.claim.port].link = .up ∧
        (ageNotices u).ports[(ageNotices u).me.claim.port].control.length < 4 := by
      have hc : (ageNotices u).me.claim = u.me.claim := rfl
      simp only [hc, hport, ageNotices_ports]
      refine ⟨?_, ?_, ?_, hroom⟩
      · rw [h.claim.1]
        exact (counted_holder_iff s).mpr ⟨hholder, hlease⟩
      · have hpart : (ageNotices u).part = s.nextPart := h.part_pt.1
        rw [State.enabled, hpart]
        exact hen
      · rw [(hshape.port_link s.me.claim.port).1, hfollowed]
        exact hup
    rw [noticeToSend, if_pos hcond, ageNotices_notices]
    have hpart : (ageNotices u).part = s.nextPart := h.part_pt.1
    rw [hpart]
    exact hn
  have hgrown : u.ports[s.me.claim.port].control.length < 4 → Grew s u.ports[s.me.claim.port]
      (boundaryAct (swapOf s) u .send).ports[s.me.claim.port] [copyOf u n]
      u.ports[s.me.claim.port].counters.syncSkip := fun hroom =>
    (send_ports_some (w := swapOf s) s (hsends hroom) s.me.claim.port).2 hport.symm
  rcases hshape with ⟨hsync, hlast⟩ | ⟨hfirst, hsync⟩
  · have hstep := hsync s.me.claim.port
    rw [hfollowed] at hstep
    rw [hlast]
    obtain ⟨hroom, -, hoff⟩ := hstep
    refine ⟨fun hs hlen => ?_, fun hs hlen => .inr ?_, fun hs hlen => .inr ?_⟩
    · have hq := hoff (fun hon => hs hon.1)
      rw [hq] at hgrown hsends
      exact ⟨hsends (by omega), (hgrown (by omega)).appended⟩
    · have hg := hroom ⟨hs, hen, hup⟩ (by omega)
      have hplace : u.ports[s.me.claim.port].control.length < 4 := by
        rw [hg.control, List.length_append, List.length_singleton]
        omega
      exact ⟨hsends hplace, (hg.trans (hgrown hplace)).appended⟩
    · have hg := hroom ⟨hs, hen, hup⟩ (by omega)
      unfold noticeToSend
      have hc : (ageNotices u).me.claim = u.me.claim := rfl
      refine if_neg (fun ⟨_, _, _, hplace⟩ => ?_)
      simp only [hc, hport, ageNotices_ports] at hplace
      rw [hg.control, List.length_append, List.length_singleton] at hplace
      omega
  · have hq := hfirst s.me.claim.port
    rw [hfollowed] at hq
    obtain ⟨hroom, hfull, hoff⟩ := hsync s.me.claim.port
    rw [hq] at hgrown hsends
    refine ⟨fun hs hlen => ?_, fun hs hlen => .inl ?_, fun hs hlen => .inl ?_⟩
    · rw [hoff (fun hon => hs hon.1)]
      exact ⟨hsends (by omega), (hgrown (by omega)).appended⟩
    · have hg := hgrown (by omega)
      have hg' := hroom ⟨hs, hen, hg.link.trans hup⟩ (by
        rw [hg.control, List.length_append, List.length_singleton]
        omega)
      exact ⟨hsends (by omega), (hg.trans hg').appended⟩
    · have hg := hgrown (by omega)
      have hg' := hfull ⟨hs, hen, hg.link.trans hup⟩ (by
        rw [hg.control, List.length_append, List.length_singleton]
        omega)
      exact ⟨hsends (by omega), (hg.trans hg').appended⟩

end

/-- Settles O24. -/
theorem boundarySendsANotice : Obligations.BoundarySendsANotice := by
  intro s0 c sch hb
  obtain ⟨k, x, he⟩ := exec_begins hb
  obtain ⟨pre, post, u, h, hshape⟩ := takeBoundary_sendShape k sch (s0.withCopyAge x)
  obtain ⟨m', hm', hsame⟩ := h.sent
  have hq := h.queue (hm'.imp (·.2) (fun ⟨pr, n, po, _, hf⟩ => ⟨pr, n, po, hf⟩)) hsame
  have hport : u.me.claim.port = s0.me.claim.port := by
    rw [h.claim.1, (s0.withCopyAge x).me.claim.counted_port.1]
    rfl
  have hover : u.me.overflow = (sendingMe (s0.withCopyAge x) (takeBoundary k sch (s0.withCopyAge x))
      (boundaryLog (s0.withCopyAge x) pre (s0.withCopyAge x).tf)).overflow := h.me.overflow.symm
  have haged : (sendingMe (s0.withCopyAge x) (takeBoundary k sch (s0.withCopyAge x))
      (boundaryLog (s0.withCopyAge x) pre (s0.withCopyAge x).tf)).aged = u.me.aged := h.me.aged
  refine ⟨_, _, _, _, m', he, hq, ?_⟩
  dsimp only
  generalize hm : sendingMe (s0.withCopyAge x) (takeBoundary k sch (s0.withCopyAge x))
      (boundaryLog (s0.withCopyAge x) pre (s0.withCopyAge x).tf) = m at *
  have hsilent : noticeToSend (ageNotices u) = none → m' = { m with notices := m.aged } ∧
      ∀ p : Port, SilentOn (s0.withCopyAge x) (takeBoundary k sch (s0.withCopyAge x)) p := by
    intro hn
    refine ⟨?_, fun p => hshape.silentOn (send_ports_none hn p)⟩
    rcases hm' with ⟨-, e⟩ | ⟨pr, n, po, hn', -⟩
    · exact e
    · exact absurd (hn.symm.trans hn') nofun
  refine ⟨fun p hp => hshape.silentOn ?_, fun hready pre' n post' hsplit hpre' hdue => ?_, fun hnone => hsilent ?_,
    fun hnot => hsilent ?_⟩
  · rcases hn : noticeToSend (ageNotices u) with _ | n
    · exact send_ports_none hn p
    · exact (send_ports_some (w := swapOf (s0.withCopyAge x)) s0 hn p).1 (fun e => hp (e.trans hport))
  · have hfind : u.me.aged.find? (noticeDue (s0.withCopyAge x).nextPart.resend) = some n := by
      rw [← haged, hsplit]
      refine List.find?_eq_some_iff_append.mpr ⟨(noticeDue_iff _ n).mpr hdue, pre', post', rfl, fun y hy => ?_⟩
      rw [Bool.not_eq_true']
      exact Bool.eq_false_iff.mpr (fun e => hpre' y hy ((noticeDue_iff _ y).mp e))
    have hfirst : noticeToSend (ageNotices u) = some n → FirstDueSent s0.nextPart.resend pre' n post' m m' := by
      intro hn
      rcases hm' with ⟨hn', -⟩ | ⟨pr, n', po, hn', hf⟩
      · exact absurd (hn'.symm.trans hn) nofun
      · obtain ⟨e1, e2, e3, e4⟩ := hf
        obtain ⟨rfl, rfl, rfl⟩ := firstDue_unique hsplit hpre' hdue e1 e2 e3
        exact ⟨e1, e2, e3, e4⟩
    have hcopy : copyOf u n = .notice ⟨n, s0.me.claim.noticeId,
        (takeBoundary k sch (s0.withCopyAge x)).pt.period, m.overflow⟩ := by
      rw [copyOf, h.claim.1, (s0.withCopyAge x).me.claim.counted_port.2, h.part_pt.2, hover]
      rfl
    obtain ⟨h1, h2, h3⟩ := SendShape.ready_port h hshape hready hfind
    rw [hcopy] at h1 h2 h3
    refine ⟨fun hs hl => ?_, fun hs hl => (h2 hs hl).imp ?_ ?_, fun hs hl => (h3 hs hl).imp ?_ hsilent⟩
    · exact ⟨hfirst (h1 hs hl).1, (h1 hs hl).2⟩
    all_goals exact fun ⟨hn, ha⟩ => ⟨hfirst hn, ha⟩
  · rcases hn : noticeToSend (ageNotices u) with _ | n
    · rfl
    · obtain ⟨-, hfind⟩ := noticeToSend_aged hn
      rw [h.part_pt.1, ← haged] at hfind
      exact absurd ((noticeDue_iff _ n).mp (List.find?_some hfind)) (hnone n (List.mem_of_find?_eq_some hfind))
  · rcases hn : noticeToSend (ageNotices u) with _ | n
    · rfl
    · obtain ⟨hready, hlen⟩ := h.ready hshape hn
      rcases hnot with hnot | hnot
      · exact absurd hready hnot
      · exact absurd hlen (Nat.not_lt.mpr hnot)

end Sys2Proof.Machine
end

section
/-!
A close of a window (R40 to R42, R47 to R54): the accumulator it works on, and the three ends of an emission.
-/

namespace Sys2Proof.Machine

/-! ### One group -/

theorem modGroup_self {s : State} {g : GroupId} {f : Accum → Accum} (h : f s.groups[g] = s.groups[g]) :
    s.modGroup g f = s := by
  have hgroups : (s.modGroup g f).groups = s.groups := by
    refine Vector.ext (fun i hi => ?_)
    refine (modGroup_get s g ⟨i, hi⟩ f).trans ?_
    split
    next e => subst e; exact h
    · rfl
  calc s.modGroup g f = { s with groups := (s.modGroup g f).groups } := rfl
    _ = s := by rw [hgroups]

theorem modGroup_own (s : State) (g : GroupId) (f : Accum → Accum) : (s.modGroup g f).groups[g] = f s.groups[g] := by
  rw [modGroup_get, if_pos rfl]

theorem modGroup_other {s : State} {g h : GroupId} (f : Accum → Accum) (hne : h ≠ g) :
    (s.modGroup g f).groups[h] = s.groups[h] := by
  rw [modGroup_get, if_neg hne.symm]

/-! ### The take set, as the statements count it -/

theorem takeCount_iff {d : Dest} {excluded : Port → Prop} {e : Option Port} (he : ∀ p, excluded p ↔ e = some p)
    (s : State) (n : Nat) : TakeCount d excluded s n ↔ (takeSet d e s).length = n := by
  have hmem : ∀ p, p ∈ takeSet d e s ↔ Standing s d p ∧ ¬ excluded p ∧ s.ports[p].data.length < 64 := by
    intro p
    rw [mem_takeSet, he]
  constructor
  · rintro ⟨l, hl, rfl, hiff⟩
    exact ((List.perm_ext_iff_of_nodup (takeSet_nodup d e s) hl).mpr (fun p => by rw [hmem, hiff])).length_eq
  · rintro rfl
    exact ⟨_, takeSet_nodup d e s, rfl, hmem⟩

/-- The ports after the copies of a cell in buffer `b` and the counts of the full ones. -/
theorem portTakes_of_copies {d : Dest} {excluded : Port → Prop} {e : Option Port} (he : ∀ p, excluded p ↔ e = some p)
    {b : BufId} {s t : State} {f : ControlEntry → Cell} {cells : BufId → Cell}
    (hports : ∀ p : Port, t.ports[p] = if p ∈ takeSet d e s then (countDrops d e s).ports[p].withData f cells b
      else (countDrops d e s).ports[p])
    (hcell : takeSet d e s ≠ [] → cells b = t.pool[b].cell) (p : Port) : PortTakes b d excluded s t p := by
  have hdrop := countDrops_ports d e s p
  rw [PortTakes]
  simp only [he]
  have hp := hports p
  refine ⟨fun hs hx hroom => ?_, fun hs hx hfull => ?_, fun hn => ?_⟩
  · have htake : p ∈ takeSet d e s := mem_takeSet.mpr ⟨hs, hx, hroom⟩
    rw [if_neg (fun hm => Nat.not_le.mpr hroom (mem_fullSet.mp hm).2.2)] at hdrop
    rw [if_pos htake, hdrop] at hp
    refine ⟨_, hp, fun hb => arbitrated_busy hb, fun hidle hc hd => ?_⟩
    rw [← hcell (List.ne_nil_of_mem htake)]
    exact arbitrated_data (q := { s.ports[p] with data := s.ports[p].data ++ [b] }) (l := []) hidle hs.2.2 hc
      (by rw [hd]; rfl)
  · rw [if_pos (mem_fullSet.mpr ⟨hs, hx, hfull⟩)] at hdrop
    rw [if_neg (fun hm => Nat.not_le.mpr (mem_takeSet.mp hm).2.2 hfull), hdrop] at hp
    exact hp
  · rw [if_neg (fun hm => hn ⟨(mem_fullSet.mp hm).1, (mem_fullSet.mp hm).2.1⟩)] at hdrop
    rw [if_neg (fun hm => hn ⟨(mem_takeSet.mp hm).1, (mem_takeSet.mp hm).2.1⟩), hdrop] at hp
    exact hp

theorem PortTakes.congr {b : BufId} {d : Dest} {excluded : Port → Prop} {s s' t t' : State} {p : Port}
    (h : PortTakes b d excluded s t p) (hports : s'.ports = s.ports) (hbanks : s'.banks = s.banks)
    (htports : t'.ports = t.ports) (htpool : t'.pool = t.pool) : PortTakes b d excluded s' t' p := by
  unfold PortTakes Standing State.part at *
  simp only [hports, hbanks, htports, htpool]
  exact h

/-! ### The three ends of an emission (R50 to R52) -/

/-- An accumulator whose cell has been emitted. -/
def Accum.emitted (a : Accum) : Accum :=
  { a with emission := a.emission + 1, counters := { a.counters with emitted := satAdd a.counters.emitted 1 } }

section
variable {g : GroupId} {v : Samples} {short : Bool} {u : State}

theorem emit_lost (h : takeBuffer u = none) : emit g v short u = queueNotice (.groupLost g) .nothing
    (u.countGroup g (fun c => { c with lost := satInc c.lost })) := by
  unfold emit
  rw [h]

theorem emit_noDest {b : BufId} (h : takeBuffer u = some b) (htake : takeSet (u.groupRec g).dest none u = []) :
    emit g v short u = (countDrops (u.groupRec g).dest none u).countGroup g (fun c => { c with noDest := satInc c.noDest }) := by
  unfold emit
  rw [h]
  dsimp only
  rw [htake]

theorem emit_taken {b : BufId} (h : takeBuffer u = some b) (htake : takeSet (u.groupRec g).dest none u ≠ []) :
    emit g v short u = (appendToAll b (groupCell g v short u) (takeSet (u.groupRec g).dest none u)
      (countDrops (u.groupRec g).dest none u)).modGroup g Accum.emitted := by
  unfold emit
  rw [h]
  dsimp only
  rcases ht : takeSet (u.groupRec g).dest none u with _ | ⟨p, ps⟩
  · exact absurd ht htake
  · rfl

theorem appendToAll_state (b : BufId) (c : Cell) (l : List Port) (s : State) : appendToAll b c l s = { s with
    pool := (appendToAll b c l s).pool, ports := (appendToAll b c l s).ports } := by
  obtain ⟨h1, h2, h3, h4, h5, h6, h7, -⟩ := appendToAll_frame b c l s
  generalize appendToAll b c l s = t at *
  cases t
  cases s
  simp_all

theorem countDrops_state (d : Dest) (e : Option Port) (s : State) :
    countDrops d e s = { s with ports := (countDrops d e s).ports } := by
  have h := countDrops_frame d e s
  generalize countDrops d e s = t at *
  cases t
  cases s
  simp_all

end

/-! ### A close at work: group `g` changed, ME perhaps, nothing else -/

/-- `s` with accumulator `x` for group `g` and ME as `m`. -/
def State.working (s : State) (g : GroupId) (x : Accum) (m : Management) : State :=
  { s.modGroup g (fun _ => x) with me := m }

section
variable {s : State} {g : GroupId} {x : Accum} {m : Management}

theorem working_own : (s.working g x m).groups[g] = x := modGroup_own s g _

theorem working_other {h : GroupId} (hne : h ≠ g) : (s.working g x m).groups[h] = s.groups[h] := modGroup_other _ hne

theorem working_modGroup (f : Accum → Accum) : (s.working g x m).modGroup g f = s.working g (f x) m := by
  simp only [State.working, State.modGroup, vecMod, Fin.getElem_fin, Vector.getElem_set_self, Vector.set_set]

theorem modGroup_working (f : Accum → Accum) : s.modGroup g f = s.working g (f s.groups[g]) s.me := rfl

/-- GROUP_SHORT where the record asks for it (R48). -/
def shortNoted (r : GroupRec) (g : GroupId) (m : Management) : Management :=
  if r.notifyShort then enqueueNotice (.groupShort g) .nothing m else m

/-- SHORT counted (R47). -/
def Accum.shortCounted (a : Accum) : Accum := { a with counters := { a.counters with short := satAdd a.counters.short 1 } }

theorem noteShort_working : noteShort g (s.working g x m) = s.working g x.shortCounted (shortNoted (s.groupRec g) g m) := by
  have hrec : (s.working g x m).groupRec g = s.groupRec g := rfl
  simp only [noteShort, State.countGroup, working_modGroup, hrec, shortNoted, queueNotice]
  split <;> rfl

/-- The accumulator after FILLED, where a slot is filled (R43). -/
def Accum.fillMarked (r : GroupRec) (a : Accum) : Accum :=
  if filledSlots r a = [] then a
  else { a with filled := true, counters := { a.counters with filled := satAdd a.counters.filled 1 } }

/-- The accumulator at rest after a close (R54). -/
def Accum.closed (r : GroupRec) (a : Accum) : Accum := { a with state := afterClose r.mode }

theorem closing_working (forced : Bool) :
    (if forced then markCut g s else s) = s.working g (s.groups[g].closing forced) s.me := by
  cases forced
  · exact (modGroup_self (f := id) rfl).symm
  · rfl

theorem arrivals_closing (forced : Bool) (a : Accum) : arrivals (a.closing forced) = arrivals a := by cases forced <;> rfl

theorem formedClose_working : formedClose g (s.working g x m) =
    emit g (formOutput (s.groupRec g) x) false (s.working g (x.fillMarked (s.groupRec g)) m) := by
  have hrec : (s.working g x m).groupRec g = s.groupRec g := rfl
  unfold formedClose
  simp only [working_own, hrec, working_modGroup, Accum.fillMarked]
  by_cases h : filledSlots (s.groupRec g) x = []
  · simp only [if_pos h]
  · simp only [if_neg h]
    rfl

end

section
variable {s : State} {g : GroupId} {forced : Bool}

theorem closeGroup_formed (ho : s.groups[g].state = .opened) (hq : (s.groupRec g).quorum ≤ arrivals s.groups[g]) :
    closeGroup forced g s = (emit g (formOutput (s.groupRec g) (s.groups[g].closing forced)) false
      (s.working g ((s.groups[g].closing forced).fillMarked (s.groupRec g)) s.me)).modGroup g
        (Accum.closed (s.groupRec g)) := by
  unfold closeGroup
  rw [if_pos ho]
  dsimp only
  rw [if_pos hq, closing_working, formedClose_working]
  rfl

theorem closeGroup_short (ho : s.groups[g].state = .opened) (hq : arrivals s.groups[g] < (s.groupRec g).quorum) :
    closeGroup forced g s = (shortClose g (s.working g (s.groups[g].closing forced) s.me)).modGroup g
      (Accum.closed (s.groupRec g)) := by
  unfold closeGroup
  rw [if_pos ho]
  dsimp only
  rw [if_neg (by omega), closing_working]
  rfl

theorem closeGroup_muted (ho : s.groups[g].state = .opened) (hq : arrivals s.groups[g] < (s.groupRec g).quorum)
    (hmute : (s.groupRec g).onShort = .mute) : closeGroup forced g s =
      (emit g (List.replicate (s.groupRec g).sampleCount 0) true (s.working g (s.groups[g].closing forced).shortCounted
        (shortNoted (s.groupRec g) g s.me))).modGroup g (Accum.closed (s.groupRec g)) := by
  have hrec : (s.working g (s.groups[g].closing forced) s.me).groupRec g = s.groupRec g := rfl
  rw [closeGroup_short ho hq]
  unfold shortClose
  rw [hrec, hmute]
  dsimp only
  rw [noteShort_working]

theorem closeGroup_suppressed (ho : s.groups[g].state = .opened) (hq : arrivals s.groups[g] < (s.groupRec g).quorum)
    (hsuppress : (s.groupRec g).onShort = .suppress) : closeGroup forced g s =
      s.working g (Accum.closed (s.groupRec g) { (s.groups[g].closing forced).shortCounted with
        counters := { (s.groups[g].closing forced).shortCounted.counters with
          suppressed := satAdd (s.groups[g].closing forced).shortCounted.counters.suppressed 1 } })
        (shortNoted (s.groupRec g) g s.me) := by
  have hrec : (s.working g (s.groups[g].closing forced) s.me).groupRec g = s.groupRec g := rfl
  rw [closeGroup_short ho hq]
  unfold shortClose
  rw [hrec, hsuppress]
  dsimp only
  rw [noteShort_working]
  simp only [State.countGroup, working_modGroup]
  rfl

theorem exec_closes {c : Instr} (h : Closes c forced s g) :
    exec c s = .next (closeGroup forced g s) ∧ s.groups[g].state = .opened := by
  rcases h with ⟨rfl, rfl, henabled, hclose, hopen⟩ | ⟨rfl, ⟨sch, rfl⟩, hstep, hopen⟩
  · have hdue : closeDue s g = true := by
      simp [closeDue, scheduled, State.groupRec, -Fin.getElem_fin, henabled, hclose, hopen]
    exact ⟨by simp only [exec, execCloseWindow, if_pos hdue], hopen⟩
  · obtain ⟨n, hn⟩ := Option.ne_none_iff_exists'.mp hstep
    refine ⟨?_, hopen⟩
    have hfirst : takeSyncFirst (.only [g]) s = s := if_neg hstep
    simp only [exec, execSyncTaken, hfirst, carryStep, hn]
    rfl

end

/-! ### What the two reports of a close leave in ME -/

theorem shortNoted_queued {r : GroupRec} (h : r.notifyShort = true) (g : GroupId) (m : Management) :
    NoticeQueued (.groupShort g) .nothing m (shortNoted r g m) := by
  rw [shortNoted, if_pos h]
  exact noticeQueued_enqueueNotice _ _ m

theorem shortNoted_silent {r : GroupRec} (h : r.notifyShort = false) (g : GroupId) (m : Management) :
    shortNoted r g m = m := by
  rw [shortNoted, h]
  rfl

end Sys2Proof.Machine
end

section
/-!
The closes as the statements see them: suppressed, emitted, lost (R41, R42, R47 to R54).
-/

namespace Sys2Proof.Machine

/-! ### The ends of an emission at work -/

section
variable {s : State} {g : GroupId} {x : Accum} {m : Management} {v : Samples} {short : Bool} {f : Accum → Accum}

theorem emission_lost (h : takeBuffer s = none) : (emit g v short (s.working g x m)).modGroup g f =
    s.working g (f { x with counters := { x.counters with lost := satAdd x.counters.lost 1 } })
      (enqueueNotice (.groupLost g) .nothing m) := by
  rw [emit_lost (u := s.working g x m) h]
  simp only [State.countGroup, working_modGroup]
  exact working_modGroup (s := s) (x := { x with counters := { x.counters with lost := satAdd x.counters.lost 1 } })
    (m := enqueueNotice (.groupLost g) .nothing m) f

theorem working_takeCount_zero {excluded : Port → Prop} {e : Option Port} {d : Dest}
    (he : ∀ p, excluded p ↔ e = some p) (h : TakeCount d excluded s 0) : takeSet d e (s.working g x m) = [] :=
  List.eq_nil_of_length_eq_zero ((takeCount_iff he s 0).mp h)

theorem nobody_excluded (p : Port) : False ↔ (none : Option Port) = some p := by simp

theorem emission_noDest {b : BufId} (h : takeBuffer s = some b)
    (htake : TakeCount (s.groupRec g).dest (fun _ => False) s 0) :
    let t := (emit g v short (s.working g x m)).modGroup g f
    t = { s with groups := t.groups, ports := t.ports, me := m } ∧
    (∀ k : GroupId, k ≠ g → t.groups[k] = s.groups[k]) ∧
    t.groups[g] = f { x with counters := { x.counters with noDest := satAdd x.counters.noDest 1 } } ∧
    ∀ p : Port, PortTakes b (s.groupRec g).dest (fun _ => False) s t p := by
  intro t
  have hnone := working_takeCount_zero (g := g) (x := x) (m := m) nobody_excluded htake
  have ht : t = ((countDrops (s.groupRec g).dest none (s.working g x m)).countGroup g
      (fun c => { c with noDest := satInc c.noDest })).modGroup g f :=
    congrArg (fun u => State.modGroup u g f) (emit_noDest (u := s.working g x m) h hnone)
  rw [countDrops_state] at ht
  have hgroup : t.groups = ((s.working g x m).modGroup g (fun a => f { a with
      counters := { a.counters with noDest := satInc a.counters.noDest } })).groups := by
    rw [ht]
    simp only [State.countGroup, State.modGroup, vecMod, Fin.getElem_fin, Vector.getElem_set_self, Vector.set_set]
  refine ⟨by rw [ht]; rfl, fun k hk => ?_, ?_, fun p => ?_⟩
  · simp only [hgroup, working_modGroup]
    exact working_other hk
  · simp only [hgroup, working_modGroup]
    exact working_own
  · refine portTakes_of_copies (f := controlCell s) (cells := fun b => s.pool[b].cell) nobody_excluded (fun p' => ?_)
      (fun hne => absurd hnone hne) p
    have hp : t.ports = (countDrops (s.groupRec g).dest none (s.working g x m)).ports := by rw [ht]; rfl
    simp only [hp]
    rw [if_neg (fun hm => List.not_mem_nil (hnone ▸ hm))]

theorem emission_taken {b : BufId} {n : Nat} (h : takeBuffer s = some b)
    (htake : TakeCount (s.groupRec g).dest (fun _ => False) s n) (hn : 0 < n) :
    let t := (emit g v short (s.working g x m)).modGroup g f
    t.pt = s.pt ∧ t.tf = s.tf ∧ t.streams = s.streams ∧ t.banks = s.banks ∧ t.pending = s.pending ∧ t.me = m ∧
    (∀ k : GroupId, k ≠ g → t.groups[k] = s.groups[k]) ∧
    (∀ y : BufId, y ≠ b → t.pool[y] = s.pool[y]) ∧
    (∀ p : Port, PortTakes b (s.groupRec g).dest (fun _ => False) s t p) ∧
    t.groups[g] = f x.emitted ∧
    t.pool[b] = ⟨outputCell (outputFlags short x.cut x.filled) (s.groupRec g).outStream x.emission
      (s.groupRec g).sampleCount s.pt.period v, n⟩ := by
  intro t
  have hlength : (takeSet (s.groupRec g).dest none s).length = n := (takeCount_iff nobody_excluded s n).mp htake
  have hsome : takeSet (s.groupRec g).dest none s ≠ [] := List.ne_nil_of_length_pos (hlength ▸ hn)
  have hcell : groupCell g v short (s.working g x m) = outputCell (outputFlags short x.cut x.filled)
      (s.groupRec g).outStream x.emission (s.groupRec g).sampleCount s.pt.period v := by
    unfold groupCell
    rw [working_own]
    rfl
  generalize outputCell (outputFlags short x.cut x.filled) (s.groupRec g).outStream x.emission
    (s.groupRec g).sampleCount s.pt.period v = c at hcell ⊢
  let u := countDrops (s.groupRec g).dest none (s.working g x m)
  have hu : u = { s.working g x m with ports := u.ports } := countDrops_state _ _ _
  have ht : t = ((appendToAll b c (takeSet (s.groupRec g).dest none s) u).modGroup g Accum.emitted).modGroup g f := by
    rw [← hcell]
    exact congrArg (fun u => State.modGroup u g f) (emit_taken (u := s.working g x m) h hsome)
  have hupool : u.pool = s.pool := by rw [hu]; rfl
  have hpool : ∀ y, t.pool[y] = if b = y then ⟨c, n⟩ else s.pool[y] := by
    intro y
    refine (congrArg (fun z : State => z.pool[y]) ht).trans ((appendToAll_pool b y c _ u).trans ?_)
    rw [hlength, hupool]
  have hports : ∀ p : Port, t.ports[p] = (appendToAll b c (takeSet (s.groupRec g).dest none s) u).ports[p] :=
    fun p => by rw [ht]; rfl
  have hgroups : t.groups = ((s.working g x m).modGroup g (fun a => f a.emitted)).groups := by
    rw [ht, appendToAll_state, hu]
    simp only [State.modGroup, vecMod, Fin.getElem_fin, Vector.getElem_set_self, Vector.set_set]
  obtain ⟨hpt, htf, hstreams, hbanks, hpending, hme⟩ : t.pt = s.pt ∧ t.tf = s.tf ∧ t.streams = s.streams ∧
      t.banks = s.banks ∧ t.pending = s.pending ∧ t.me = m := by
    rw [ht, appendToAll_state, hu]
    exact ⟨rfl, rfl, rfl, rfl, rfl, rfl⟩
  refine ⟨hpt, htf, hstreams, hbanks, hpending, hme, fun k hk => ?_, fun y hy => ?_, fun p => ?_, ?_, ?_⟩
  · simp only [hgroups, working_modGroup]
    exact working_other hk
  · rw [hpool, if_neg hy.symm]
  · refine portTakes_of_copies (f := controlCell u) (cells := cellsWith b c u) nobody_excluded (fun p' => ?_)
      (fun _ => ?_) p
    · have hdrop : u.ports[p'] = (countDrops (s.groupRec g).dest none s).ports[p'] :=
        (countDrops_ports _ _ (s.working g x m) p').trans (countDrops_ports _ _ s p').symm
      rw [hports, appendToAll_ports b c (takeSet_nodup _ _ s) u p', hdrop]
    · rw [hpool, if_pos rfl, cellsWith, if_pos rfl]
  · simp only [hgroups, working_modGroup]
    exact working_own
  · rw [hpool, if_pos rfl]

end

/-! ### The closes -/

/-- Settles O33. -/
theorem shortCloseSuppresses : Obligations.ShortCloseSuppresses := by
  intro s g c forced hcloses r a hshort hsuppress
  obtain ⟨hexec, hopen⟩ := exec_closes hcloses
  rw [closeGroup_suppressed hopen hshort hsuppress] at hexec
  refine ⟨_, hexec, rfl, fun h hh => working_other hh, ?_, fun hr => shortNoted_queued hr g s.me,
    fun hr => shortNoted_silent hr g s.me⟩
  rw [working_own]
  rfl

/-- Settles O34. -/
theorem closeEmitsTheOutput : Obligations.CloseEmitsTheOutput := by
  intro s g c forced b n hcloses r a hmute hbuffer htake hn
  obtain ⟨hexec, hopen⟩ := exec_closes hcloses
  rw [arrivals_closing] at hmute ⊢
  by_cases hq : r.quorum ≤ arrivals s.groups[g]
  · rw [closeGroup_formed hopen hq] at hexec
    obtain ⟨hpt, htf, hstreams, hbanks, hpending, hme, hothers, hpool, hports, hgroup, hcell⟩ :=
      emission_taken (g := g) (x := a.fillMarked r) (m := s.me) (v := formOutput r a) (short := false)
        (f := Accum.closed r) hbuffer htake hn
    refine ⟨_, hexec, hpt, htf, hstreams, hbanks, hpending, hothers, hpool, hports, fun _ => ⟨hme, ?_, ?_⟩,
      fun hshort => absurd hshort (by omega)⟩
    · refine hgroup.trans ?_
      by_cases hf : filledSlots r a = []
      · simp only [Accum.fillMarked, if_pos hf, if_neg (not_not_intro hf)]
        rfl
      · simp only [Accum.fillMarked, if_neg hf, if_pos hf]
        rfl
    · refine hcell.trans ?_
      by_cases hf : filledSlots r a = []
      · simp only [Accum.fillMarked, if_pos hf, if_neg (not_not_intro hf)]
        rfl
      · simp only [Accum.fillMarked, if_neg hf, if_pos hf]
        rfl
  · have hshort : arrivals s.groups[g] < r.quorum := by omega
    rw [closeGroup_muted hopen hshort (hmute hshort)] at hexec
    obtain ⟨hpt, htf, hstreams, hbanks, hpending, hme, hothers, hpool, hports, hgroup, hcell⟩ :=
      emission_taken (g := g) (x := a.shortCounted) (m := shortNoted r g s.me)
        (v := List.replicate r.sampleCount 0) (short := true) (f := Accum.closed r) hbuffer htake hn
    refine ⟨_, hexec, hpt, htf, hstreams, hbanks, hpending, hothers, hpool, hports, fun h => absurd h hq, fun _ =>
      ⟨fun hr => (congrArg (NoticeQueued _ _ s.me) hme).mpr (shortNoted_queued hr g s.me),
        fun hr => hme.trans (shortNoted_silent hr g s.me), hgroup, hcell⟩⟩

/-- Settles O35. -/
theorem closeLosesTheOutput : Obligations.CloseLosesTheOutput := by
  intro s g c forced hcloses r a formed hmute fills ends counted closed reported
  obtain ⟨hexec, hopen⟩ := exec_closes hcloses
  have harrivals : arrivals a = arrivals s.groups[g] := arrivals_closing forced _
  -- What an emission starts from, and the accumulator and ME that it leaves.
  obtain ⟨x, m, v, short, hclose, hx, hm⟩ : ∃ x m v short,
      closeGroup forced g s = (emit g v short (s.working g x m)).modGroup g (Accum.closed r) ∧
      x.closed r = { closed with counters := counted } ∧ reported m := by
    by_cases hq : formed
    · refine ⟨_, _, _, _, closeGroup_formed hopen (harrivals ▸ hq), ?_, fun h => absurd hq h.1, fun _ => rfl⟩
      by_cases hf : filledSlots r a = []
      · have hfills : ¬ fills := fun h => h.2 hf
        simp only [closed, counted, if_pos hq, if_neg hfills]
        exact congrArg (Accum.closed r) (if_pos hf)
      · have hfills : fills := ⟨hq, hf⟩
        simp only [closed, counted, if_pos hq, if_pos hfills]
        exact congrArg (Accum.closed r) (if_neg hf)
    · have hfills : ¬ fills := fun h => hq h.1
      refine ⟨_, _, _, _, closeGroup_muted hopen (harrivals ▸ Nat.lt_of_not_le hq) (hmute hq), ?_,
        fun h => shortNoted_queued h.2 g s.me, fun h => shortNoted_silent (h.resolve_left hq) g s.me⟩
      simp only [closed, counted, if_neg hq, if_neg hfills]
      rfl
  rw [hclose] at hexec
  refine ⟨fun hnone => ?_, fun b hbuffer htake => ?_⟩
  · rw [emission_lost hnone] at hexec
    refine ⟨_, m, hexec, rfl, fun k hk => working_other hk, ?_, hm, noticeQueued_enqueueNotice _ _ m⟩
    rw [working_own]
    exact congrArg (fun y : Accum => { y with counters := { y.counters with lost := satAdd y.counters.lost 1 } }) hx
  · obtain ⟨hstate, hothers, hgroup, hports⟩ :=
      emission_noDest (g := g) (x := x) (m := m) (v := v) (short := short) (f := Accum.closed r) hbuffer htake
    generalize (emit g v short (s.working g x m)).modGroup g (Accum.closed r) = t at *
    have hme : t.me = m := congrArg State.me hstate
    subst hme
    refine ⟨t, hexec, hstate, hothers, hgroup.trans ?_, hm, hports⟩
    exact congrArg (fun y : Accum => { y with counters := { y.counters with noDest := satAdd y.counters.noDest 1 } }) hx

end Sys2Proof.Machine
end

section
/-!
Links and transmissions: the departures from UP as the statements see them, the reports of the transceivers, a failed
check, and TX_COMPLETE (R100 to R104, R142, R151 to R156).
-/

namespace Sys2Proof.Machine

/-! ### What a departure from UP tells TF and ME (R142, R153, R159) -/

theorem tellFollower_silent {p : Port} {s : State} (h : s.part.timingPort ≠ p ∨ s.tf.state ≠ .locked) :
    tellFollower p s = s := by
  unfold tellFollower
  split
  next hp => exact if_neg (h.resolve_left (not_not_intro hp))
  · rfl

theorem tellFollower_told {p : Port} {s : State} (hp : s.part.timingPort = p) (hlocked : s.tf.state = .locked) :
    tellFollower p s = queueTiming .holdover (s.modTf (fun f => { f with state := .holdover })) := by
  rw [tellFollower, if_pos hp]
  exact if_pos hlocked

theorem dropLink_me_slots (p : Port) (target : Link) (s : State) :
    (dropLink p target s).me = { s.me with slots := (dropLink p target s).me.slots } := by
  obtain ⟨-, -, -, -, -, -, hreq, hreset, hclaim, hcache, hnotices, hnumber, hover⟩ := dropLink_frame p target s
  exact Management.ext_fields (m := { s.me with slots := (dropLink p target s).me.slots }) ⟨hnotices, hnumber, hover⟩
    hreq rfl hreset hclaim hcache

theorem enqueueNotice_slots (t : Topic) (pl : NoticePayload) (m : Management) : (enqueueNotice t pl m).slots = m.slots :=
  (enqueueNotice_frame t pl m).2.1

theorem leaveUp_told (p : Port) (target : Link) (o : LossOrder) (s : State) : LossTold p o s (leaveUp p target o s) := by
  have hme := dropLink_me_slots p target s
  have htf : (dropLink p target s).tf = s.tf := (dropLink_frame p target s).2.1
  have hbanks : (dropLink p target s).banks = s.banks := (dropLink_frame p target s).2.2.2.2.1
  generalize hu : dropLink p target s = u at *
  refine ⟨fun h => ?_, fun hp hlocked => ?_⟩
  · -- TF is not told: LINK down is all that is queued.
    have hquiet : leaveUp p target o s = queueLink p false u := by
      have hu' : ∀ v : State, v.tf = u.tf → v.banks = u.banks → tellFollower p v = v := fun v hv hb =>
        tellFollower_silent (by rw [hv, htf, State.part, hb, hbanks]; exact h)
      cases o
      · simp only [leaveUp, hu, hu' (queueLink p false u) rfl rfl]
      · simp only [leaveUp, hu, hu' u rfl rfl]
    rw [hquiet]
    refine ⟨htf, ?_⟩
    have hslots : (queueLink p false u).me.slots = u.me.slots := enqueueNotice_slots _ _ _
    rw [hslots, ← hme]
    exact noticeQueued_enqueueNotice _ _ _
  · have htold : ∀ v : State, v.tf = u.tf → v.banks = u.banks →
        tellFollower p v = queueTiming .holdover (v.modTf (fun f => { f with state := .holdover })) := fun v hv hb =>
      tellFollower_told (by rw [State.part, hb, hbanks]; exact hp) (by rw [hv, htf, hlocked])
    cases o
    · have hleft : leaveUp p target .linkFirst s =
          queueTiming .holdover ((queueLink p false u).modTf (fun f => { f with state := .holdover })) := by
        simp only [leaveUp, hu, htold (queueLink p false u) rfl rfl]
      rw [hleft]
      have hslots : (enqueueNotice .timing (.timing .holdover) (enqueueNotice (.link p) (.link false) u.me)).slots =
        u.me.slots := (enqueueNotice_slots _ _ _).trans (enqueueNotice_slots _ _ _)
      refine ⟨congrArg (fun f : Follower => { f with state := .holdover }) htf,
        enqueueNotice (.link p) (.link false) u.me, fun _ => ⟨?_, noticeQueued_enqueueNotice _ _ _⟩, nofun⟩
      exact (congrArg (fun m => NoticeQueued _ _ m _) (hme.trans (by rw [← hslots]; rfl))).mp
        (noticeQueued_enqueueNotice _ _ u.me)
    · have hleft : leaveUp p target .timingFirst s =
          queueLink p false (queueTiming .holdover (u.modTf (fun f => { f with state := .holdover }))) := by
        simp only [leaveUp, hu, htold u rfl rfl]
      rw [hleft]
      have hslots : (enqueueNotice (.link p) (.link false) (enqueueNotice .timing (.timing .holdover) u.me)).slots =
        u.me.slots := (enqueueNotice_slots _ _ _).trans (enqueueNotice_slots _ _ _)
      refine ⟨congrArg (fun f : Follower => { f with state := .holdover }) htf,
        enqueueNotice .timing (.timing .holdover) u.me, nofun, fun _ => ⟨?_, noticeQueued_enqueueNotice _ _ _⟩⟩
      exact (congrArg (fun m => NoticeQueued _ _ m _) (hme.trans (by rw [← hslots]; rfl))).mp
        (noticeQueued_enqueueNotice _ _ u.me)

/-! ### Departures from UP -/

/-- A departure from UP, port `p` changed before it by `f`, which leaves its queues alone. -/
theorem leaveUp_departs (p : Port) (target : Link) (o : LossOrder) (s : State) {f : PortState → PortState}
    (hcontrol : (f s.ports[p]).control = s.ports[p].control) (hdata : (f s.ports[p]).data = s.ports[p].data) :
    let t := leaveUp p target o (s.modPort p f)
    (∀ q : Port, q ≠ p → t.ports[q] = s.ports[q]) ∧ PortDropped target (f s.ports[p]) t.ports[p] ∧
    EntriesReturned s.ports[p] s t ∧
    t.pt = s.pt ∧ t.groups = s.groups ∧ t.streams = s.streams ∧ t.banks = s.banks ∧ t.pending = s.pending ∧
    LossTold p o s t := by
  intro t
  have hown : (s.modPort p f).ports[p] = f s.ports[p] := by rw [modPort_ports, if_pos rfl]
  obtain ⟨hpt, hgroups, hstreams, hbanks, hpending, -⟩ := leaveUp_frame p target o (s.modPort p f)
  have hreturned := leaveUp_returned p target o (s.modPort p f)
  unfold EntriesReturned at hreturned
  rw [hown, hcontrol, hdata] at hreturned
  refine ⟨fun q hq => ?_, ?_, hreturned, hpt, hgroups, hstreams, hbanks, hpending,
    leaveUp_told p target o (s.modPort p f)⟩
  · rw [leaveUp_ports, if_neg hq, modPort_ports, if_neg hq]
  · rw [leaveUp_ports, if_pos rfl, hown]
    exact portDropped_dropped target _

theorem leaveUp_departs_self (p : Port) (target : Link) (o : LossOrder) (s : State) :
    let t := leaveUp p target o s
    (∀ q : Port, q ≠ p → t.ports[q] = s.ports[q]) ∧ PortDropped target s.ports[p] t.ports[p] ∧
    EntriesReturned s.ports[p] s t ∧
    t.pt = s.pt ∧ t.groups = s.groups ∧ t.streams = s.streams ∧ t.banks = s.banks ∧ t.pending = s.pending ∧
    LossTold p o s t := by
  intro t
  obtain ⟨hpt, hgroups, hstreams, hbanks, hpending, -⟩ := leaveUp_frame p target o s
  refine ⟨fun q hq => ?_, ?_, leaveUp_returned p target o s, hpt, hgroups, hstreams, hbanks, hpending,
    leaveUp_told p target o s⟩
  · rw [leaveUp_ports, if_neg hq]
  · rw [leaveUp_ports, if_pos rfl]
    exact portDropped_dropped target _

/-- Settles O41. -/
theorem failedCheckCounts : Obligations.FailedCheckCounts := by
  intro s p c o hup hbad counted
  let f : PortState → PortState := fun q => { q with
    errorRun := q.errorRun + 1, counters := { q.counters with rxCheck := satAdd q.counters.rxCheck 1 } }
  have hexec : exec (.cellReceived p c o) s = .next (failCheck p o s) := by
    simp only [exec, execCellReceived, if_pos hup, hbad]
    rfl
  have hown : (s.modPort p f).ports[p] = counted := by rw [modPort_ports, if_pos rfl]
  have hrun : (s.modPort p f).ports[p].errorRun = s.ports[p].errorRun + 1 := congrArg PortState.errorRun hown
  by_cases hlimit : 7 ≤ s.ports[p].errorRun
  · have hfail : failCheck p o s = leaveUp p .training o (s.modPort p f) :=
      if_pos (by show (s.modPort p f).ports[p].errorRun ≥ 8; omega)
    rw [hfail] at hexec
    obtain ⟨hothers, hrest⟩ := leaveUp_departs p .training o s (f := f) rfl rfl
    exact ⟨_, hexec, hothers, fun h => absurd h (by omega), fun _ => hrest⟩
  · have hfail : failCheck p o s = s.modPort p f :=
      if_neg (by show ¬ (s.modPort p f).ports[p].errorRun ≥ 8; omega)
    rw [hfail] at hexec
    exact ⟨_, hexec, fun q hq => by rw [modPort_ports, if_neg hq], fun _ => ⟨rfl, hown⟩, fun h => absurd h hlimit⟩

theorem modPort_set (s : State) (p : Port) (f : PortState → PortState) :
    s.modPort p f = { s with ports := s.ports.set p.val (f s.ports[p]) p.isLt } := rfl

/-- Settles O46. -/
theorem signalReports : Obligations.SignalReports := by
  intro s p o
  refine ⟨rfl, fun hnot => ?_, fun hup => ?_⟩
  · simp only [exec, execSignalLost]
    cases hlink : s.ports[p].link with
    | up => exact absurd hlink hnot
    | training => simp [State.modPort, vecMod]
    | down =>
      have hsame : ({ s.ports[p] with signal := false, link := .down } : PortState) =
        { s.ports[p] with signal := false } := by rw [← hlink]
      rw [hsame]
      rfl
  · have hexec : exec (.signalLost p o) s = .next (leaveUp p .down o (s.modPort p (fun q => { q with signal := false }))) := by
      simp only [exec, execSignalLost, hup]
    exact ⟨_, hexec, leaveUp_departs p .down o s (f := fun q => { q with signal := false }) rfl rfl⟩

/-- Settles O47. -/
theorem alignmentReports : Obligations.AlignmentReports := by
  intro s p o
  refine ⟨fun h => if_neg h, fun h => ⟨_, if_pos h, rfl, noticeQueued_enqueueNotice _ _ _⟩, fun h => if_neg h,
    fun h => ⟨_, if_pos h, leaveUp_departs_self p .training o s⟩⟩

/-! ### TX_COMPLETE -/

/-- Settles O48. -/
theorem transmissionCompletes : Obligations.TransmissionCompletes := by
  intro s p c hup counted
  refine ⟨fun b rest htx hdata => ?_, fun e rest htx hcontrol => ?_⟩
  · have hexec : exec (.txComplete p) s = .next (completeData p s) := by simp only [exec, execTxComplete, htx]
    have hpool : (completeData p s).pool = (releaseBuffer b s).pool := by
      rw [completeData_state hdata]
    refine ⟨_, _, hexec, ?_, fun q hq => ?_, (completeData_ports hdata p).trans (if_pos rfl), fun x hx => ?_, ?_,
      fun e es hc => ?_, fun x xs hc hd => ?_, fun hc hd => ?_⟩
    · conv_lhs => rw [completeData_state hdata]
      rw [hpool]
    · rw [completeData_ports hdata, if_neg hq]
    · simp only [hpool]
      exact (vecMod_get _ _ _ _).trans (if_neg hx.symm)
    · simp only [hpool]
      exact (vecMod_get _ _ _ _).trans (if_pos rfl)
    · exact arbitrated_control (q := { s.ports[p] with data := rest, tx := .idle }) rfl hup hc
    · exact arbitrated_data (q := { s.ports[p] with data := rest, tx := .idle }) rfl hup hc hd
    · exact arbitrated_nothing (q := { s.ports[p] with data := rest, tx := .idle }) rfl hc hd
  · have hexec : exec (.txComplete p) s = .next (completeControl p s) := by simp only [exec, execTxComplete, htx]
    have hme : (completeControl p s).me = (returnEntry s e).me := by
      rw [completeControl_state hcontrol]
    have hcells : controlCell (completeControl p s) = controlCell (returnEntry s e) :=
      controlCell_congr (congrArg Management.slots hme)
    refine ⟨_, _, hexec, ?_, fun q hq => ?_, (completeControl_ports hcontrol p).trans (if_pos rfl), fun r hr => ?_,
      fun hr => ?_, fun x xs hc => ?_, fun b bs hc hd => ?_, fun hc hd => ?_⟩
    · conv_lhs => rw [completeControl_state hcontrol]
      rw [hme]
    · rw [completeControl_ports hcontrol, if_neg hq]
    · subst hr
      exact hme
    · cases e with
      | response r => exact absurd rfl (hr r)
      | notice x => exact hme
      | sync id n => exact hme
    · rw [hcells]
      exact arbitrated_control (q := { s.ports[p] with control := rest, tx := .idle }) rfl hup hc
    · exact arbitrated_data (q := { s.ports[p] with control := rest, tx := .idle }) rfl hup hc hd
    · exact arbitrated_nothing (q := { s.ports[p] with control := rest, tx := .idle }) rfl hc hd

end Sys2Proof.Machine
end

section
/-!
A good cell on an UP port: the stages before lookup, the lookup, and what is handed on (R63 to R73, R156).
-/

namespace Sys2Proof.Machine

/-! ### One stream -/

theorem modStream_ports (s : State) (i : StreamId) (f : StreamState → StreamState) : (s.modStream i f).ports = s.ports := rfl

theorem modStream_own (s : State) (i : StreamId) (f : StreamState → StreamState) : (s.modStream i f).streams[i] = f s.streams[i] :=
  (vecMod_get _ _ _ _).trans (if_pos rfl)

theorem modStream_other {s : State} {i j : StreamId} (f : StreamState → StreamState) (h : j ≠ i) :
    (s.modStream i f).streams[j] = s.streams[j] :=
  (vecMod_get _ _ _ _).trans (if_neg h.symm)

theorem modStream_modStream (s : State) (i : StreamId) (f g : StreamState → StreamState) :
    (s.modStream i f).modStream i g = s.modStream i (fun x => g (f x)) := by
  simp only [State.modStream, vecMod, Fin.getElem_fin, Vector.getElem_set_self, Vector.set_set]

/-! ### The stages before lookup -/

theorem exec_cellReceived_good {s : State} {p : Port} {c : Cell} (o : LossOrder) (hup : s.ports[p].link = .up)
    (hgood : checkGood c = true) :
    exec (.cellReceived p c o) s = .next (classify p c { s with ports := receivedOn s p }) := by
  simp only [exec, execCellReceived, if_pos hup, if_pos hgood]
  rfl

theorem headerStream_some {c : Cell} {i : StreamId} (hid : (cellStreamId c).toNat = i.val)
    (hlow : 1 ≤ (cellByte c 0).toNat) (hhigh : (cellByte c 0).toNat ≤ 5)
    (hcount : cellByte c 0 = 1 → 1 ≤ cellSampleCount c ∧ cellSampleCount c ≤ 16) : headerStream c = some i := by
  have hcountOk : (cellByte c 0 != 1 || (decide (1 ≤ cellSampleCount c) && decide (cellSampleCount c ≤ 16))) = true := by
    by_cases hdata : cellByte c 0 = 1
    · rw [decide_eq_true (hcount hdata).1, decide_eq_true (hcount hdata).2]
      simp
    · rw [bne_iff_ne.mpr hdata]
      rfl
  have hpass : (decide (1 ≤ (cellByte c 0).toNat) && decide ((cellByte c 0).toNat ≤ 5) &&
      (cellByte c 0 != 1 || (decide (1 ≤ cellSampleCount c) && decide (cellSampleCount c ≤ 16)))) = true := by
    rw [decide_eq_true hlow, decide_eq_true hhigh, hcountOk]
    rfl
  refine (if_pos hpass).trans ?_
  rw [hid, indexBelow_of_lt i.isLt]

theorem headerStream_none {c : Cell} (h : (cellByte c 0).toNat = 0 ∨ 6 ≤ (cellByte c 0).toNat ∨
    1024 ≤ (cellStreamId c).toNat ∨ ((cellByte c 0).toNat = 1 ∧ (cellSampleCount c = 0 ∨ 16 < cellSampleCount c))) :
    headerStream c = none := by
  have heq : headerStream c = if (decide (1 ≤ (cellByte c 0).toNat) && decide ((cellByte c 0).toNat ≤ 5) &&
      (cellByte c 0 != 1 || (decide (1 ≤ cellSampleCount c) && decide (cellSampleCount c ≤ 16)))) = true then
      indexBelow 1024 (cellStreamId c).toNat else none := rfl
  rw [heq]
  split
  next hpass =>
    have hdata : (cellByte c 0).toNat = 1 → cellByte c 0 = 1 := fun h => BitVec.eq_of_toNat_eq h
    simp only [Bool.and_eq_true, Bool.or_eq_true, decide_eq_true_eq, bne_iff_ne] at hpass
    obtain ⟨⟨hlow, hhigh⟩, hcount⟩ := hpass
    rcases h with h | h | h | ⟨hone, h⟩
    · omega
    · omega
    · exact indexBelow_of_le h
    · have := hcount.resolve_left (not_not_intro (hdata hone))
      omega
  · rfl

section
variable {s : State} {p : Port} {c : Cell} {i : StreamId}

theorem classify_of_header (h : headerStream c = some i) (hsync : divertsSync s p c = false)
    (hown : isOwnRequest s i c = false) : classify p c s = lookUp i p c s := by
  unfold classify
  rw [h]
  simp only [hsync, hown]
  rfl

theorem exec_lookedUp (o : LossOrder) (h : LookedUp s p c i) :
    exec (.cellReceived p c o) s = .next (lookUp i p c { s with ports := receivedOn s p }) := by
  obtain ⟨hup, hgood, hid, hlow, hhigh, hcount, hsync, hown⟩ := h
  rw [exec_cellReceived_good o hup hgood, classify_of_header (headerStream_some hid hlow hhigh hcount)]
  · simp only [divertsSync, cellKind, kindSync, State.part] at hsync ⊢
    simp only [Bool.and_eq_false_iff, beq_eq_false_iff_ne]
    tauto
  · simp only [isOwnRequest, cellKind, kindRequest, State.part] at hown ⊢
    simp only [Bool.and_eq_false_iff, beq_eq_false_iff_ne]
    tauto

/-! ### The lookup -/

theorem lookUp_drop (h : (s.streamRec i).action = .drop) :
    lookUp i p c s = s.countStream i (fun x => { x with dropped := satAdd x.dropped 1 }) := if_pos h

theorem guardRefuses_iff {r : StreamRec} {p : Port} : guardRefuses r p = true ↔ ∃ g, r.guard = some g ∧ g ≠ p := by
  unfold guardRefuses
  split <;> simp_all

theorem lookUp_guard (haction : (s.streamRec i).action ≠ .drop) (h : guardRefuses (s.streamRec i) p = true) :
    lookUp i p c s = s.countStream i (fun x => { x with guard := satAdd x.guard 1 }) :=
  (if_neg haction).trans (if_pos h)

theorem not_guardRefuses {r : StreamRec} (h : r.guard = none ∨ r.guard = some p) : ¬ guardRefuses r p = true := by
  rw [guardRefuses_iff]
  rintro ⟨g, hg, hne⟩
  rcases h with h | h <;> rw [h] at hg
  · exact nomatch hg
  · exact hne (Option.some.inj hg).symm

theorem lookUp_sequence (haction : (s.streamRec i).action ≠ .drop)
    (hguard : (s.streamRec i).guard = none ∨ (s.streamRec i).guard = some p) :
    lookUp i p c s = sequenceStage i (s.streamRec i) p c s :=
  (if_neg haction).trans (if_neg (not_guardRefuses hguard))

theorem judgeSequence_unchecked {r : StreamRec} {last : Option Byte} (h : sequenceChecked r c = false) :
    judgeSequence r last c = .unchecked := by
  simp only [sequenceChecked, Bool.and_eq_false_iff, beq_eq_false_iff_ne] at h
  exact if_pos h

theorem judgeSequence_checked {r : StreamRec} {last : Option Byte} (h : sequenceChecked r c = true) :
    judgeSequence r last c = match last with
      | none => .first
      | some n => if cellByte c 4 = n then .repeated else if cellByte c 4 = n + 1 then .inOrder else .gap := by
  refine if_neg ?_
  simp only [sequenceChecked, Bool.and_eq_true, beq_iff_eq] at h
  rintro (hkind | hcheck)
  · exact hkind h.1
  · rw [h.2] at hcheck
    exact nomatch hcheck

theorem sequenceStage_repeated {r : StreamRec} (h : sequenceChecked r c = true)
    (hlast : s.streams[i].lastSeq = some (cellByte c 4)) :
    sequenceStage i r p c s = s.countStream i (fun x => { x with repeated := satAdd x.repeated 1 }) := by
  unfold sequenceStage
  rw [judgeSequence_checked h, hlast]
  dsimp only
  rw [if_pos rfl]
  rfl

theorem acceptedStream_unchecked (h : sequenceChecked s.banks.active.streams[i] c = false) :
    acceptedStream s c i = { s.streams[i] with counters :=
      { s.streams[i].counters with accepted := satAdd s.streams[i].counters.accepted 1 } } := by
  simp only [acceptedStream, h]
  rfl

theorem acceptedStream_inOrder (h : sequenceChecked s.banks.active.streams[i] c = true)
    (hlast : ∀ m, s.streams[i].lastSeq = some m → cellByte c 4 = m + 1) :
    acceptedStream s c i = { s.streams[i] with lastSeq := some (cellByte c 4), counters :=
      { s.streams[i].counters with accepted := satAdd s.streams[i].counters.accepted 1 } } := by
  simp only [acceptedStream, h]
  cases hl : s.streams[i].lastSeq with
  | none => rfl
  | some m => simp [hlast m hl]

theorem acceptedStream_gap (h : sequenceChecked s.banks.active.streams[i] c = true) {m : Byte}
    (hlast : s.streams[i].lastSeq = some m) (hgap : cellByte c 4 ≠ m + 1) :
    acceptedStream s c i = { s.streams[i] with lastSeq := some (cellByte c 4), counters :=
      { s.streams[i].counters with
        accepted := satAdd s.streams[i].counters.accepted 1, gap := satAdd s.streams[i].counters.gap 1 } } := by
  have hne : (cellByte c 4 != m + 1) = true := bne_iff_ne.mpr hgap
  simp only [acceptedStream, h, hlast, hne]
  rfl

theorem modStream_congr {f g : StreamState → StreamState} (h : f s.streams[i] = g s.streams[i]) :
    s.modStream i f = s.modStream i g := by
  unfold State.modStream vecMod
  rw [h]

/-- A cell that the sequence stage does not refuse is handed on with its stream's acceptance made. -/
theorem sequenceStage_accepted
    (hlast : sequenceChecked s.banks.active.streams[i] c = true → s.streams[i].lastSeq ≠ some (cellByte c 4)) :
    sequenceStage i s.banks.active.streams[i] p c s =
      handOn i s.banks.active.streams[i] p c (s.modStream i (fun _ => acceptedStream s c i)) := by
  unfold sequenceStage acceptCell
  simp only [State.countStream, modStream_modStream]
  have handed : ∀ {f : StreamState → StreamState}, f s.streams[i] = acceptedStream s c i →
      handOn i s.banks.active.streams[i] p c (s.modStream i f) =
        handOn i s.banks.active.streams[i] p c (s.modStream i (fun _ => acceptedStream s c i)) :=
    fun hf => congrArg _ (modStream_congr hf)
  cases hcheck : sequenceChecked s.banks.active.streams[i] c with
  | false =>
    rw [judgeSequence_unchecked hcheck]
    exact handed (acceptedStream_unchecked hcheck).symm
  | true =>
    rw [judgeSequence_checked hcheck]
    cases hl : s.streams[i].lastSeq with
    | none => exact handed (acceptedStream_inOrder hcheck (by rw [hl]; nofun)).symm
    | some m =>
      dsimp only
      rw [if_neg (fun e => hlast hcheck (by rw [hl, e]))]
      by_cases horder : cellByte c 4 = m + 1
      · rw [if_pos horder]
        exact handed (acceptedStream_inOrder hcheck (by rw [hl]; rintro x ⟨⟩; exact horder)).symm
      · rw [if_neg horder]
        exact handed (acceptedStream_gap hcheck hl horder).symm

/-- The state in which an accepted cell is handed on (R70, R71, R156). -/
def State.accepting (s : State) (p : Port) (c : Cell) (i : StreamId) : State :=
  { s with ports := receivedOn s p, streams := s.streams.set i.val (acceptedStream s c i) i.isLt }

theorem exec_accepted (o : LossOrder) (h : Accepted s p c i) :
    exec (.cellReceived p c o) s = .next (handOn i s.banks.active.streams[i] p c (s.accepting p c i)) := by
  obtain ⟨hlooked, haction, hguard, hlast⟩ := h
  rw [exec_lookedUp o hlooked, lookUp_sequence (s := { s with ports := receivedOn s p }) haction hguard]
  exact congrArg Host.Outcome.next (sequenceStage_accepted (s := { s with ports := receivedOn s p }) hlast)

theorem accepting_stream : (s.accepting p c i).streams[i] = acceptedStream s c i := by
  simp [State.accepting]

theorem accepting_other {j : StreamId} (h : j ≠ i) : (s.accepting p c i).streams[j] = s.streams[j] :=
  (Vector.getElem_set i.isLt j.isLt).trans (if_neg (fun e => h (Fin.ext e.symm)))

end

/-- Settles O43. -/
theorem cellsRefusedAtLookup : Obligations.CellsRefusedAtLookup := by
  intro s p c o i hlooked r k after
  rw [exec_lookedUp o hlooked]
  refine ⟨fun h => congrArg Host.Outcome.next (lookUp_drop (s := { s with ports := receivedOn s p }) h),
    fun haction g hg hne => congrArg Host.Outcome.next (lookUp_guard (s := { s with ports := receivedOn s p }) haction
      (guardRefuses_iff.mpr ⟨g, hg, hne⟩)), fun haction hguard hdata hcheck hlast => ?_⟩
  rw [lookUp_sequence (s := { s with ports := receivedOn s p }) haction hguard]
  have hchecked : sequenceChecked r c = true := by simp [sequenceChecked, hdata, hcheck]
  exact congrArg Host.Outcome.next (sequenceStage_repeated (s := { s with ports := receivedOn s p }) hchecked hlast)

/-- Settles O42. -/
theorem cellsBeforeLookup : Obligations.CellsBeforeLookup := by
  intro s p c o passed counted kind id headerBad
  refine ⟨fun h => if_neg h, fun hup hgood => ?_⟩
  rw [exec_cellReceived_good o hup hgood]
  have hcounted : ∀ f : PortCounters → PortCounters, Host.Outcome.next ({ s with ports := receivedOn s p }.countPort p f) =
      counted (f passed.counters) := by
    intro f
    have hset : vecMod (receivedOn s p) p (fun q => { q with counters := f q.counters }) =
        s.ports.set p.val { passed with counters := f passed.counters } p.isLt := by
      simp only [vecMod, receivedOn, Fin.getElem_fin, Vector.getElem_set_self, Vector.set_set]
      rfl
    simp only [State.countPort, State.modPort, hset]
    rfl
  refine ⟨fun hbad => ?_, fun hkind hid hsource hport => ?_, fun hkind hid => ?_⟩
  · rw [classify, headerStream_none hbad]
    exact hcounted _
  · have hk : cellByte c 0 = 2 := BitVec.eq_of_toNat_eq hkind
    have hheader : headerStream c = some ⟨id, hid⟩ :=
      headerStream_some rfl (by omega) (by omega) (fun h => absurd (hk.symm.trans h) (by decide))
    have hdivert : divertsSync { s with ports := receivedOn s p } p c = true := by
      simp only [divertsSync, cellKind, hk, kindSync, Bool.and_eq_true, beq_iff_eq]
      exact ⟨⟨trivial, hsource⟩, hport⟩
    rw [classify, hheader]
    dsimp only
    rw [if_pos hdivert]
    rfl
  · have hk : cellByte c 0 = 3 := BitVec.eq_of_toNat_eq hkind
    have hheader : headerStream c = some s.part.mgmtId :=
      headerStream_some hid (by omega) (by omega) (fun h => absurd (hk.symm.trans h) (by decide))
    have hdivert : ¬ divertsSync { s with ports := receivedOn s p } p c = true := by
      simp [divertsSync, cellKind, hk, kindSync]
    have hown : isOwnRequest { s with ports := receivedOn s p } s.part.mgmtId c = true := by
      simp only [isOwnRequest, cellKind, hk, kindRequest, Bool.and_eq_true, beq_iff_eq]
      exact ⟨trivial, rfl⟩
    have htaken : classify p c { s with ports := receivedOn s p } = takeInRequest p c { s with ports := receivedOn s p } := by
      rw [classify, hheader]
      dsimp only
      rw [if_neg hdivert, if_pos hown]
    rw [htaken]
    refine ⟨fun hallowed hroom => ?_, fun hallowed hfull => ?_, fun hdenied => ?_⟩
    · refine congrArg Host.Outcome.next ((if_pos hallowed).trans (if_pos hroom))
    · refine (congrArg Host.Outcome.next ((if_pos hallowed).trans (if_neg (Nat.not_lt.mpr hfull)))).trans (hcounted _)
    · refine (congrArg Host.Outcome.next (if_neg (ne_true_of_eq_false hdenied))).trans (hcounted _)

end Sys2Proof.Machine
end

section
/-!
What an accepted cell does: its contribution and its forwarding, one or both (R22 to R30, R73, R81 to R88).
-/

namespace Sys2Proof.Machine

/-! ### The contribution part (R22, R26, R29, R30, R73) -/

/-- The stream counters after a contribution that is discarded: KIND for a cell that is not DATA, else R29's outcome. -/
def discardCount (r : GroupRec) (a : Accum) (f : Feed) (c : Cell) (k : StreamCounters) : StreamCounters :=
  if cellByte c 0 = 1 then countOutcome (contributionOutcome r a f.slot (cellSampleCount c)) k
  else { k with kind := satAdd k.kind 1 }

section
variable {s : State} {i : StreamId} {f : Feed} {c : Cell}

theorem contributionOutcome_accepted {r : GroupRec} {a : Accum} {slot : Slot} {n : Nat} (hopen : a.state = .opened)
    (hsize : n = r.sampleCount) (hfree : a.arrived[slot] = none) : contributionOutcome r a slot n = .accepted := by
  simp [contributionOutcome, hopen, hsize, hfree, -Fin.getElem_fin]

theorem contributionOutcome_size {r : GroupRec} {a : Accum} {slot : Slot} {n : Nat} (hopen : a.state = .opened)
    (hsize : n ≠ r.sampleCount) : contributionOutcome r a slot n = .size := by
  simp [contributionOutcome, hopen, hsize]

theorem contributionOutcome_duplicate {r : GroupRec} {a : Accum} {slot : Slot} {n : Nat} (hopen : a.state = .opened)
    (hsize : n = r.sampleCount) (htaken : a.arrived[slot] ≠ none) : contributionOutcome r a slot n = .duplicate := by
  have hsome : a.arrived[slot].isSome = true := Option.isSome_iff_ne_none.mpr htaken
  simp [contributionOutcome, hopen, hsize, hsome, -Fin.getElem_fin]

theorem contributionOutcome_shut {r : GroupRec} {a : Accum} {slot : Slot} {n : Nat} (hshut : a.state ≠ .opened) :
    contributionOutcome r a slot n ≠ .accepted := by
  unfold contributionOutcome
  cases h : a.state <;> simp_all

theorem contributeCell_accepted (hdata : cellByte c 0 = 1)
    (houtcome : contributionOutcome (s.groupRec f.group) s.groups[f.group] f.slot (cellSampleCount c) = .accepted) :
    contributeCell i f c s = s.modGroup f.group (acceptContribution (s.groupRec f.group).op f.slot s.pt.tick
      ((cellSamples c (cellSampleCount c)).map (shiftSample f.shift))) := by
  refine (if_pos hdata).trans ?_
  unfold contribute
  rw [houtcome]

theorem contributeCell_discarded (h : cellByte c 0 = 1 →
    contributionOutcome (s.groupRec f.group) s.groups[f.group] f.slot (cellSampleCount c) ≠ .accepted) :
    contributeCell i f c s = s.countStream i (discardCount (s.groupRec f.group) s.groups[f.group] f c) := by
  have hcount : discardCount (s.groupRec f.group) s.groups[f.group] f c = fun k => if cellByte c 0 = 1 then
      countOutcome (contributionOutcome (s.groupRec f.group) s.groups[f.group] f.slot (cellSampleCount c)) k
      else { k with kind := satAdd k.kind 1 } := rfl
  rw [hcount]
  by_cases hdata : cellByte c 0 = 1
  · refine (if_pos hdata).trans ?_
    simp only [if_pos hdata]
    unfold contribute
    split
    next hacc => exact absurd hacc (h hdata)
    · rfl
  · refine (if_neg hdata).trans ?_
    simp only [if_neg hdata]
    rfl

/-- A contribution changes one accumulator, or one counter of its stream that forwarding does not count. -/
theorem contributeCell_stream (i : StreamId) (f : Feed) (c : Cell) (s : State) :
    contributeCell i f c s = { s with
      groups := (contributeCell i f c s).groups, streams := (contributeCell i f c s).streams } ∧
    (∀ j : StreamId, j ≠ i → (contributeCell i f c s).streams[j] = s.streams[j]) ∧
    (contributeCell i f c s).streams[i].lastSeq = s.streams[i].lastSeq ∧
    (contributeCell i f c s).streams[i].counters.noDest = s.streams[i].counters.noDest ∧
    (contributeCell i f c s).streams[i].counters.poolDrop = s.streams[i].counters.poolDrop := by
  by_cases h : cellByte c 0 = 1 ∧
    contributionOutcome (s.groupRec f.group) s.groups[f.group] f.slot (cellSampleCount c) = .accepted
  · rw [contributeCell_accepted h.1 h.2]
    exact ⟨rfl, fun _ _ => rfl, rfl, rfl, rfl⟩
  · rw [contributeCell_discarded (fun hdata houtcome => h ⟨hdata, houtcome⟩)]
    refine ⟨rfl, fun j hj => modStream_other _ hj, ?_⟩
    simp only [State.countStream, modStream_own]
    refine ⟨trivial, ?_⟩
    unfold discardCount countOutcome
    split
    · split <;> exact ⟨rfl, rfl⟩
    · exact ⟨rfl, rfl⟩

end

/-! ### The forwarding part (R81 to R88) -/

/-- The ingress port a record keeps its cells from (R83). -/
def StreamRec.echoed (r : StreamRec) (p : Port) : Option Port := if r.echo = .suppress then some p else none

theorem echoed_iff (r : StreamRec) (p q : Port) : (r.echo = .suppress ∧ q = p) ↔ r.echoed p = some q := by
  unfold StreamRec.echoed
  split
  next h => simp [h, eq_comm]
  next h => simp [h]

section
variable {s : State} {i : StreamId} {d : Dest} {r : StreamRec} {p : Port} {c : Cell}

theorem forwardCell_noDest (h : takeSet d (r.echoed p) s = []) : forwardCell i d r p c s =
    (countDrops d (r.echoed p) s).countStream i (fun x => { x with noDest := satAdd x.noDest 1 }) := by
  unfold forwardCell
  rw [StreamRec.echoed] at *
  dsimp only
  rw [h]
  rfl

theorem forwardCell_poolDrop (h : takeSet d (r.echoed p) s ≠ []) (hnone : takeBuffer s = none) :
    forwardCell i d r p c s = queueNotice .poolEmpty .nothing
      ((countDrops d (r.echoed p) s).countStream i (fun x => { x with poolDrop := satAdd x.poolDrop 1 })) := by
  unfold forwardCell
  rw [StreamRec.echoed] at *
  dsimp only
  split
  next htake => exact absurd htake h
  · rw [hnone]
    rfl

theorem forwardCell_taken {b : BufId} (h : takeSet d (r.echoed p) s ≠ []) (hbuffer : takeBuffer s = some b) :
    forwardCell i d r p c s = appendToAll b (r.rename.elim c (renameCell c)) (takeSet d (r.echoed p) s)
      (countDrops d (r.echoed p) s) := by
  unfold forwardCell
  rw [StreamRec.echoed] at *
  dsimp only
  split
  next htake => exact absurd htake h
  next q qs htake => rw [hbuffer, htake]

/-- Forwarding changes streams, ports, pool and ME alone, and of streams two counters of its own. -/
structure ForwardKept (i : StreamId) (s t : State) : Prop where
  state : t = { s with streams := t.streams, ports := t.ports, pool := t.pool, me := t.me }
  others : ∀ j : StreamId, j ≠ i → t.streams[j] = s.streams[j]
  own : t.streams[i] = { s.streams[i] with counters := { s.streams[i].counters with
    noDest := t.streams[i].counters.noDest, poolDrop := t.streams[i].counters.poolDrop } }

theorem forwardKept_refl (i : StreamId) (s : State) : ForwardKept i s s := ⟨rfl, fun _ _ => rfl, rfl⟩

theorem forwardKept_forwardCell (i : StreamId) (d : Dest) (r : StreamRec) (p : Port) (c : Cell) (s : State) :
    ForwardKept i s (forwardCell i d r p c s) := by
  have hdrop := countDrops_state d (r.echoed p) s
  have counted : ∀ f : StreamCounters → StreamCounters, (∀ k, f k = { k with
      noDest := (f k).noDest, poolDrop := (f k).poolDrop }) → ∀ m,
      ForwardKept i s { (countDrops d (r.echoed p) s).countStream i f with me := m } := by
    intro f hf m
    have hstreams : (countDrops d (r.echoed p) s).streams = s.streams := by rw [hdrop]
    refine ⟨(by rw [hdrop]; rfl), fun j hj => ?_, ?_⟩
    · refine (modStream_other _ hj).trans ?_
      simp only [hstreams]
    · have hown : ({ (countDrops d (r.echoed p) s).countStream i f with me := m } : State).streams[i] =
          { s.streams[i] with counters := f s.streams[i].counters } := by
        refine (modStream_own _ i _).trans ?_
        simp only [hstreams]
      simp only [hown]
      exact congrArg (fun k => ({ s.streams[i] with counters := k } : StreamState)) (hf _)
  by_cases htake : takeSet d (r.echoed p) s = []
  · rw [forwardCell_noDest htake]
    exact counted (fun x => { x with noDest := satAdd x.noDest 1 }) (fun _ => rfl) _
  · cases hbuffer : takeBuffer s with
    | none =>
      rw [forwardCell_poolDrop htake hbuffer]
      exact counted (fun x => { x with poolDrop := satAdd x.poolDrop 1 }) (fun _ => rfl) _
    | some b =>
      rw [forwardCell_taken htake hbuffer, appendToAll_state, hdrop]
      exact ⟨rfl, fun _ _ => rfl, rfl⟩

end

/-! ### An accepted cell handed on (R73) -/

section
variable {s : State} {p : Port} {c : Cell} {i : StreamId}

/-- The state that a contribution finds: after the forwarding part, where there is one. -/
theorem exec_feeds {f : Feed} (o : LossOrder) (h : Accepted s p c i) (hfeeds : s.banks.active.streams[i].feeds f) :
    ∃ v, exec (.cellReceived p c o) s = .next (contributeCell i f c v) ∧ ForwardKept i (s.accepting p c i) v ∧
      (s.banks.active.streams[i].action = .contribute f → v = s.accepting p c i) := by
  rw [exec_accepted o h]
  rcases hfeeds with haction | ⟨d, haction⟩
  · refine ⟨s.accepting p c i, ?_, forwardKept_refl _ _, fun _ => rfl⟩
    unfold handOn
    rw [haction]
  · refine ⟨_, ?_, forwardKept_forwardCell i d s.banks.active.streams[i] p c _, fun h => nomatch haction.symm.trans h⟩
    unfold handOn
    rw [haction]

/-- What stands after the forwarding part: the contribution part, where there is one. -/
theorem exec_forwards {d : Dest} (o : LossOrder) (h : Accepted s p c i) (hto : s.banks.active.streams[i].forwardsTo d) :
    let w := forwardCell i d s.banks.active.streams[i] p c (s.accepting p c i)
    ∃ t, exec (.cellReceived p c o) s = .next t ∧ t = { w with groups := t.groups, streams := t.streams } ∧
      (∀ j : StreamId, j ≠ i → t.streams[j] = w.streams[j]) ∧ t.streams[i].lastSeq = w.streams[i].lastSeq ∧
      t.streams[i].counters.noDest = w.streams[i].counters.noDest ∧
      t.streams[i].counters.poolDrop = w.streams[i].counters.poolDrop ∧
      (s.banks.active.streams[i].action = .forward d → t = w) := by
  intro w
  rw [exec_accepted o h]
  rcases hto with haction | ⟨f, haction⟩
  · refine ⟨w, ?_, rfl, fun _ _ => rfl, rfl, rfl, rfl, fun _ => rfl⟩
    unfold handOn
    rw [haction]
  · obtain ⟨hstate, hothers, hlast, hnoDest, hpoolDrop⟩ := contributeCell_stream i f c w
    refine ⟨_, ?_, hstate, hothers, hlast, hnoDest, hpoolDrop, fun h => nomatch haction.symm.trans h⟩
    unfold handOn
    rw [haction]

end

/-- Settles O39. -/
theorem contributionIsAccepted : Obligations.ContributionIsAccepted := by
  intro s p c o i f haccepted hfeeds hdata n r a hopen hsize hfree v k
  obtain ⟨u, hexec, ⟨hstate, hothers, hown⟩, halone⟩ := exec_feeds o haccepted hfeeds
  have hgroups : u.groups = s.groups := by rw [hstate]; rfl
  have hrec : u.groupRec f.group = r := by rw [hstate]; rfl
  have htick : u.pt.tick = s.pt.tick := by rw [hstate]; rfl
  have hgroup : u.groups[f.group] = a := by simp only [hgroups]; rfl
  rw [contributeCell_accepted hdata (by rw [hrec, hgroup]; exact contributionOutcome_accepted hopen hsize hfree),
    hrec, htick] at hexec
  generalize ht : u.modGroup f.group (acceptContribution r.op f.slot s.pt.tick
    ((cellSamples c (cellSampleCount c)).map (shiftSample f.shift))) = t at hexec
  have htgroup : t.groups[f.group] = acceptContribution r.op f.slot s.pt.tick v a := by
    rw [← ht, modGroup_own, hgroup]
    rfl
  have hresult : t.groups[f.group].result = updateRunning r.op f.slot v a.result := congrArg Accum.result htgroup
  have hstreams : t.streams = u.streams := by rw [← ht]; rfl
  refine ⟨t, hexec, ?_, fun h hh => ?_, ?_, fun w hop hw => ?_, fun w hop hw => ?_, fun w hop hw => ?_, fun hw => ?_,
    fun j w hw => ?_, fun j hj => ?_, ?_, fun h => ?_⟩
  · rw [← ht, hstate]
    rfl
  · rw [← ht, modGroup_other _ hh]
    simp only [hgroups]
  · rw [hresult, htgroup]
    rfl
  · rw [hresult, hop, hw]
    rfl
  · rw [hresult, hop, hw]
    rfl
  · rw [hresult, hop, hw]
    rfl
  · rw [hresult, hw]
    rfl
  · rw [hresult, hw]
    rfl
  · simp only [hstreams]
    exact (hothers j hj).trans (accepting_other hj)
  · simp only [hstreams]
    rw [accepting_stream] at hown
    exact hown
  · have hu := halone h
    simp only [← ht, hu]
    exact ⟨accepting_stream (p := p), rfl, rfl, rfl⟩

section
variable {r : GroupRec} {a : Accum} {f : Feed} {c : Cell}

theorem discardCount_kind (h : ¬ cellByte c 0 = 1) : discardCount r a f c = fun k => { k with kind := satAdd k.kind 1 } :=
  funext fun _ => if_neg h

theorem discardCount_of {j : Judgement} (h : cellByte c 0 = 1)
    (hj : contributionOutcome r a f.slot (cellSampleCount c) = j) : discardCount r a f c = countOutcome j := by
  funext k
  exact (if_pos h).trans (by rw [hj])

theorem contributionOutcome_refused {slot : Slot} {n : Nat}
    (h : a.state = .opened → n ≠ r.sampleCount ∨ a.arrived[slot] ≠ none) : contributionOutcome r a slot n ≠ .accepted := by
  by_cases hopen : a.state = .opened
  · by_cases hsize : n = r.sampleCount
    · rw [contributionOutcome_duplicate hopen hsize ((h hopen).resolve_left (not_not_intro hsize))]
      nofun
    · rw [contributionOutcome_size hopen hsize]
      nofun
  · exact contributionOutcome_shut hopen

end

/-- Settles O40. -/
theorem contributionIsDiscarded : Obligations.ContributionIsDiscarded := by
  intro s p c o i f haccepted hfeeds a data size hrefused
  obtain ⟨u, hexec, ⟨hstate, hothers, hown⟩, halone⟩ := exec_feeds o haccepted hfeeds
  have hgroup : u.groups[f.group] = a := by
    have hgroups : u.groups = s.groups := by rw [hstate]; rfl
    simp only [hgroups]
    rfl
  have hrec : u.groupRec f.group = s.banks.active.groups[f.group] := by rw [hstate]; rfl
  have hdiscarded := contributeCell_discarded (s := u) (i := i) (f := f) (c := c)
    (by rw [hrec, hgroup]; exact fun hdata => contributionOutcome_refused (hrefused hdata))
  rw [hrec, hgroup] at hdiscarded
  rw [accepting_stream] at hown
  obtain ⟨hkept, -, -, hnoDest, hpoolDrop⟩ := contributeCell_stream i f c u
  generalize ht : contributeCell i f c u = t at hexec hdiscarded hkept hnoDest hpoolDrop
  have htstream : t.streams[i] = { u.streams[i] with counters := discardCount s.banks.active.groups[f.group] a f c u.streams[i].counters } := by
    rw [hdiscarded]
    exact modStream_own u i _
  have hcount : ∀ g : StreamCounters → StreamCounters, discardCount s.banks.active.groups[f.group] a f c = g →
      (∀ k x y, g { k with noDest := x, poolDrop := y } = { g k with noDest := x, poolDrop := y }) →
      ({ t.streams[i].counters with
        noDest := (acceptedStream s c i).counters.noDest
        poolDrop := (acceptedStream s c i).counters.poolDrop } : StreamCounters) =
      { g (acceptedStream s c i).counters with
        noDest := (acceptedStream s c i).counters.noDest
        poolDrop := (acceptedStream s c i).counters.poolDrop } := by
    intro g hg hcomm
    rw [htstream, hg, hown]
    dsimp only
    rw [hcomm]
  refine ⟨t, hexec, ?_, fun j hj => ?_, ?_, fun hdata => ?_, fun hdata ha => ?_, fun hdata ha => ?_, fun hdata ha => ?_,
    fun hdata hopen hsize => ?_, fun hdata hopen hsize => ?_, fun haction => ?_⟩
  · rw [hdiscarded, hstate]
    rfl
  · rw [hdiscarded]
    exact (modStream_other _ hj).trans ((hothers j hj).trans (accepting_other hj))
  · rw [htstream, hown]
  · exact hcount _ (discardCount_kind hdata) (fun _ _ _ => rfl)
  · exact hcount _ (discardCount_of (j := .groupOff) hdata (by simp [contributionOutcome, ha])) (fun _ _ _ => rfl)
  · exact hcount _ (discardCount_of (j := .early) hdata (by simp [contributionOutcome, ha])) (fun _ _ _ => rfl)
  · exact hcount _ (discardCount_of (j := .late) hdata (by rcases ha with ha | ha <;> simp [contributionOutcome, ha]))
      (fun _ _ _ => rfl)
  · exact hcount _ (discardCount_of hdata (contributionOutcome_size hopen hsize)) (fun _ _ _ => rfl)
  · exact hcount _ (discardCount_of hdata (contributionOutcome_duplicate hopen (not_not.mp hsize)
      ((hrefused hdata hopen).resolve_left hsize))) (fun _ _ _ => rfl)
  · have hu := halone haction
    rw [hu, accepting_stream] at hnoDest hpoolDrop
    refine ⟨?_, ?_⟩
    · rw [← hnoDest, ← hpoolDrop]
    · rw [hdiscarded, hu]
      exact ⟨rfl, rfl, rfl⟩

end Sys2Proof.Machine
end

section
/-!
Forwarding as the statements see it: the copies of a cell and the losses (R79, R81 to R88).
-/

namespace Sys2Proof.Machine

/-! ### The ports once the cell has been counted -/

theorem receivedOn_queues (s : State) (p q : Port) : (receivedOn s p)[q].link = s.ports[q].link ∧
    (receivedOn s p)[q].data = s.ports[q].data := by
  have h : (receivedOn s p)[q] = if p = q then { s.ports[p] with errorRun := 0, counters :=
      { s.ports[p].counters with rxCells := satAdd s.ports[p].counters.rxCells 1 } } else s.ports[q] :=
    vecMod_get s.ports p q (fun x => { x with errorRun := 0, counters := { x.counters with rxCells := satAdd x.counters.rxCells 1 } })
  rw [h]
  split
  next e =>
    subst e
    exact ⟨rfl, rfl⟩
  · exact ⟨rfl, rfl⟩

section
variable {s : State} {p : Port} {c : Cell} {i : StreamId} {d : Dest}

theorem standing_accepting (q : Port) : Standing (s.accepting p c i) d q ↔ Standing s d q := by
  have h : (s.accepting p c i).ports[q].link = s.ports[q].link := (receivedOn_queues s p q).1
  unfold Standing
  rw [h]
  rfl

theorem takeCount_accepting {excluded : Port → Prop} {n : Nat} (h : TakeCount d excluded s n) :
    TakeCount d excluded (s.accepting p c i) n := by
  obtain ⟨l, hnodup, hlength, hmem⟩ := h
  refine ⟨l, hnodup, hlength, fun q => ?_⟩
  have hdata : (s.accepting p c i).ports[q].data = s.ports[q].data := (receivedOn_queues s p q).2
  rw [hmem, standing_accepting, hdata]

theorem takeSet_length {r : StreamRec} {n : Nat} (h : TakeCount d (fun q => r.echo = .suppress ∧ q = p) s n) :
    (takeSet d (r.echoed p) (s.accepting p c i)).length = n :=
  (takeCount_iff (echoed_iff r p) _ n).mp (takeCount_accepting h)

end

/-- Settles O44. -/
theorem cellsAreForwarded : Obligations.CellsAreForwarded := by
  intro s p c o i d b n r k echoed haccepted hto hbuffer hcount hn
  obtain ⟨t, hexec, hstate, hothers, hlast, hnoDest, hpoolDrop, halone⟩ := exec_forwards o haccepted hto
  let u := s.accepting p c i
  let v := countDrops d (r.echoed p) u
  have hlength : (takeSet d (r.echoed p) u).length = n := takeSet_length hcount
  have htake : takeSet d (r.echoed p) u ≠ [] := List.ne_nil_of_length_pos (hlength ▸ hn)
  have hw : forwardCell i d r p c u =
      appendToAll b (r.rename.elim c (renameCell c)) (takeSet d (r.echoed p) u) v := forwardCell_taken htake hbuffer
  have hv : v = { u with ports := v.ports } := countDrops_state d (r.echoed p) u
  generalize hcell : r.rename.elim c (renameCell c) = x at hw
  have hcopied : (match r.rename with | none => c | some id => renameCell c id) = x := by
    rw [← hcell]
    cases r.rename <;> rfl
  have hkept := appendToAll_state b x (takeSet d (r.echoed p) u) v
  rw [← hw, hv] at hkept
  generalize forwardCell i d r p c u = w at *
  have hpool : ∀ y : BufId, w.pool[y] = if b = y then ⟨x, n⟩ else s.pool[y] := by
    intro y
    rw [hw, appendToAll_pool, hlength]
    have hvpool : v.pool = s.pool := by rw [hv]; rfl
    simp only [hvpool]
  have htpool : t.pool = w.pool := by rw [hstate]
  have htports : t.ports = w.ports := by rw [hstate]
  have hwstreams : w.streams = u.streams := by rw [hkept]
  refine ⟨t, hexec, ?_, fun y hy => ?_, ?_, fun q => ?_, fun j hj => ?_, ?_, ?_, ?_, fun haction => ?_⟩
  · rw [hstate, hkept]
    rfl
  · simp only [htpool]
    rw [hpool, if_neg hy.symm]
  · simp only [htpool]
    rw [hpool, if_pos rfl]
    exact congrArg (fun z => Buffer.mk z n) hcopied.symm
  · have htakes : PortTakes b d echoed u w q := by
      refine portTakes_of_copies (f := controlCell v) (cells := cellsWith b x v) (echoed_iff r p) (fun q' => ?_)
        (fun _ => ?_) q
      · rw [hw]
        exact appendToAll_ports b x (takeSet_nodup _ _ _) v q'
      · rw [hpool, if_pos rfl, cellsWith, if_pos rfl]
    exact htakes.congr rfl rfl htports htpool
  · rw [hothers j hj]
    simp only [hwstreams]
    exact accepting_other (p := p) hj
  · rw [hlast]
    simp only [hwstreams]
    rw [accepting_stream]
  · rw [hnoDest]
    simp only [hwstreams]
    rw [accepting_stream]
  · rw [hpoolDrop]
    simp only [hwstreams]
    rw [accepting_stream]
  · rw [halone haction]
    simp only [hwstreams]
    exact ⟨accepting_stream (p := p), by rw [hkept]; rfl⟩

/-- Settles O45. -/
theorem forwardingLosses : Obligations.ForwardingLosses := by
  intro s p c o i d n r k echoed haccepted hto hcount hnone mid
  obtain ⟨t, hexec, hstate, hothers, hlast, hnoDest, hpoolDrop, halone⟩ := exec_forwards o haccepted hto
  let u := s.accepting p c i
  let v := countDrops d (r.echoed p) u
  have hlength : (takeSet d (r.echoed p) u).length = n := takeSet_length hcount
  have hv : v = { u with ports := v.ports } := countDrops_state d (r.echoed p) u
  -- The loss: one counter of the stream, and POOL_EMPTY where a port would have taken the cell.
  obtain ⟨f, m, hw, hf, hquiet, hreported⟩ : ∃ f m, forwardCell i d r p c u = { v.countStream i f with me := m } ∧
      f k.counters = (if n = 0 then { k.counters with noDest := satAdd k.counters.noDest 1 }
        else { k.counters with poolDrop := satAdd k.counters.poolDrop 1 }) ∧
      (n = 0 → m = s.me) ∧ (0 < n → NoticeQueued .poolEmpty .nothing s.me m) := by
    have hvme : v.me = s.me := by rw [hv]; rfl
    by_cases hn : n = 0
    · have htake : takeSet d (r.echoed p) u = [] := List.eq_nil_of_length_eq_zero (hlength.trans hn)
      exact ⟨fun x => { x with noDest := satAdd x.noDest 1 }, v.me, forwardCell_noDest htake, (if_pos hn).symm, fun _ => hvme, fun h => absurd hn (by omega)⟩
    · have htake : takeSet d (r.echoed p) u ≠ [] := fun h => hn (by rw [← hlength, h]; rfl)
      refine ⟨fun x => { x with poolDrop := satAdd x.poolDrop 1 }, _, forwardCell_poolDrop htake (hnone (by omega)), (if_neg hn).symm, fun h => absurd h hn, fun _ => ?_⟩
      have hme : (v.countStream i (fun x => { x with poolDrop := satAdd x.poolDrop 1 })).me = s.me := hvme
      rw [hme]
      exact noticeQueued_enqueueNotice _ _ _
  have hwstream : (forwardCell i d r p c u).streams[i] = { k with counters := f k.counters } := by
    rw [hw]
    have hvstream : v.streams[i] = k := by rw [hv]; exact accepting_stream (p := p)
    exact (modStream_own v i _).trans (by rw [hvstream])
  have hwothers : ∀ j : StreamId, j ≠ i → (forwardCell i d r p c u).streams[j] = s.streams[j] := by
    intro j hj
    rw [hw]
    have hvstream : v.streams[j] = s.streams[j] := by rw [hv]; exact accepting_other (p := p) hj
    exact (modStream_other _ hj).trans hvstream
  have htports : t.ports = v.ports := by rw [hstate, hw]; rfl
  have hdrop : ∀ q : Port, t.ports[q] = if q ∈ (standing d (r.echoed p) u).filter (dataFull u)
      then mid[q].countDrop else mid[q] := by
    intro q
    simp only [htports]
    exact countDrops_ports d (r.echoed p) u q
  have hfull : ∀ q : Port, q ∈ (standing d (r.echoed p) u).filter (dataFull u) ↔
      Standing s d q ∧ ¬ echoed q ∧ 64 ≤ s.ports[q].data.length := by
    intro q
    have hdata : u.ports[q].data = s.ports[q].data := (receivedOn_queues s p q).2
    have hecho : echoed q ↔ r.echoed p = some q := echoed_iff r p q
    rw [mem_fullSet, standing_accepting, hecho, hdata]
  refine ⟨t, hexec, ?_, fun j hj => (hothers j hj).trans (hwothers j hj), fun q => ⟨fun h => ?_, fun h => ?_⟩,
    fun hn => ?_, fun hn => ?_, ?_, ?_, ?_, fun haction => ?_⟩
  · rw [hstate, hw, hv]
    rfl
  · rw [hdrop, if_pos ((hfull q).mpr h)]
    rfl
  · rw [hdrop, if_neg (fun hm => h ((hfull q).mp hm))]
  · rw [hstate, hw]
    exact hquiet hn
  · rw [hstate, hw]
    exact hreported hn
  · rw [hlast, hwstream]
  · rw [hnoDest, hwstream, hf]
  · rw [hpoolDrop, hwstream, hf]
  · rw [halone haction, hwstream, hf]
    exact ⟨rfl, by rw [hw, hv]; rfl⟩

end Sys2Proof.Machine
end

section
/-!
SYNC_TAKEN: the SYNC taken by state and offset, the step's forced closes one at a time, and the step (R12, R34, R41, R134
to R140).
-/

namespace Sys2Proof.Machine

/-! ### The SYNC taken (R134) -/

/-- TF with the first SYNC taken off the list: its offset recorded, `rest` still to take (R134). -/
def State.recorded (s : State) (rest : List Half) : State :=
  s.modTf (fun f => { recordSync (offsetNow s) f with handed := rest })

section
variable {s : State} {n : Half} {rest : List Half}

theorem takeSync_of_handed (h : s.tf.handed = n :: rest) : takeSync s = actOnSync n (offsetNow s) (s.recorded rest) := by
  unfold takeSync
  rw [h]
  rfl

theorem takeSync_acquire (h : s.tf.handed = n :: rest) (hacquire : s.tf.state = .acquire) :
    takeSync s = askForStep n (s.recorded rest) := by
  have hstate : (s.recorded rest).tf.state = .acquire := hacquire
  rw [takeSync_of_handed h, actOnSync, hstate]

theorem inTolerance_iff {r : PartRec} {d : Int} : inTolerance r d = true ↔ d.natAbs ≤ r.tolerance := decide_eq_true_iff

theorem takeSync_followed (h : s.tf.handed = n :: rest) (hstate : s.tf.state = .locked ∨ s.tf.state = .holdover)
    (hin : (offsetNow s).natAbs ≤ s.part.tolerance) :
    takeSync s = followSync n (offsetNow s) (s.recorded rest) := by
  rw [takeSync_of_handed h]
  have hok : inTolerance (s.recorded rest).part (offsetNow s) = true := inTolerance_iff.mpr hin
  unfold actOnSync
  rw [hok]
  rcases hstate with hs | hs
  all_goals
    have hs' : (s.recorded rest).tf.state = _ := hs
    rw [hs']
    rfl

theorem takeSync_missed (h : s.tf.handed = n :: rest) (hstate : s.tf.state = .locked)
    (hout : s.part.tolerance < (offsetNow s).natAbs) : takeSync s = missSync (s.recorded rest) := by
  rw [takeSync_of_handed h]
  have hs' : (s.recorded rest).tf.state = .locked := hstate
  unfold actOnSync
  rw [hs']
  exact if_neg (fun e => Nat.not_le.mpr hout (inTolerance_iff.mp e))

theorem takeSync_refused (h : s.tf.handed = n :: rest) (hstate : s.tf.state = .holdover)
    (hout : s.part.tolerance < (offsetNow s).natAbs) : takeSync s = refuseSync (s.recorded rest) := by
  rw [takeSync_of_handed h]
  have hs' : (s.recorded rest).tf.state = .holdover := hstate
  unfold actOnSync
  rw [hs']
  exact if_neg (fun e => Nat.not_le.mpr hout (inTolerance_iff.mp e))

theorem followSync_pt (n : Half) (d : Int) (s : State) : (followSync n d s).pt =
    { s.pt with pendingAdj := some d, pendingNum := some (nextNumber n d) } := by
  unfold followSync
  dsimp only
  by_cases h : s.tf.state = .holdover
  · rw [if_pos h]
    rfl
  · rw [if_neg h]
    rfl

theorem followSync_tf (n : Half) (d : Int) (s : State) : (followSync n d s).tf = { s.tf with
    state := .locked, miss := 0, syncInTol := satAdd s.tf.syncInTol 1
    numberSlip := if n = expectedNumber s.pt.period d then s.tf.numberSlip else satAdd s.tf.numberSlip 1 } := by
  unfold followSync
  dsimp only
  by_cases h : s.tf.state = .holdover
  · rw [if_pos h]
    rfl
  · rw [if_neg h]
    rfl

/-- A SYNC that asks for no step is all that the command takes. -/
theorem exec_syncTaken_sync {closes : ForcedCloses} (sch : List BoundaryAct)
    (h : closes = .sync ∨ (s.pt.stepRequest = none ∧ (takeSync s).pt.stepRequest = none)) :
    exec (.syncTaken closes sch) s = .next (takeSync s) := by
  have hfirst : takeSyncFirst closes s = takeSync s := by
    rcases takeSyncFirst_cases closes s with ⟨-, e⟩ | ⟨hc, hs, -⟩
    · exact e
    · exact absurd h (not_or.mpr ⟨hc, fun hn => hs hn.1⟩)
  have hcarry : carryStep closes sch (takeSync s) = takeSync s := by
    unfold carryStep
    split
    · rfl
    next m hm =>
      rcases h with rfl | hs
      · rfl
      · exact absurd (hs.2.symm.trans hm) nofun
  simp only [exec, execSyncTaken, hfirst, hcarry]

end

/-- Settles O27. -/
theorem syncInToleranceAdjusts : Obligations.SyncInToleranceAdjusts := by
  intro s closes sch n rest hhanded hcloses hstate d hin
  have htake := takeSync_followed hhanded hstate hin
  have hexec := exec_syncTaken_sync sch (hcloses.imp_right (fun hs => ⟨hs, by
    rw [htake, followSync_pt]
    exact hs⟩))
  obtain ⟨hgroups, hstreams, hpool, hports, hbanks, hpending⟩ := takeSync_frame s
  have hpt : (takeSync s).pt = { s.pt with pendingAdj := some d, pendingNum := some (nextNumber n d) } := by
    rw [htake, followSync_pt]
    rfl
  refine ⟨_, hexec, fun hd => ?_, fun hd => ?_, ?_, fun hs => ?_, fun hs => ?_, hgroups, hstreams, hpool, hports, hbanks,
    hpending⟩
  · rw [hpt, nextNumber, if_pos hd]
  · rw [hpt, nextNumber, if_neg (by omega)]
  · rw [htake, followSync_tf]
    rfl
  · have hnot : ¬ (s.recorded rest).tf.state = .holdover := fun e => nomatch hs.symm.trans e
    rw [htake, followSync, if_neg hnot]
    rfl
  · have hyes : (s.recorded rest).tf.state = .holdover := hs
    rw [htake, followSync, if_pos hyes]
    exact noticeQueued_enqueueNotice _ _ _

/-- The miss counter saturates far above the limit of misses (R139). -/
theorem miss_limit (k : Counter) : 3 ≤ (satAdd k 1).toNat ↔ 2 ≤ k.toNat := by
  have hk := k.isLt
  simp only [satAdd, BitVec.toNat_ofNat]
  omega

theorem missSync_few {s : State} (h : s.tf.miss.toNat ≤ 1) : missSync s =
    s.modTf (fun f => { f with syncOutTol := satAdd f.syncOutTol 1, miss := satAdd f.miss 1 }) :=
  if_neg (fun hm => absurd ((miss_limit s.tf.miss).mp hm) (by omega))

theorem missSync_many {s : State} (h : 2 ≤ s.tf.miss.toNat) : missSync s = giveUpLock
    (s.modTf (fun f => { f with syncOutTol := satAdd f.syncOutTol 1, miss := satAdd f.miss 1 })) :=
  if_pos ((miss_limit s.tf.miss).mpr h)

/-- Settles O28. -/
theorem syncOutOfToleranceMisses : Obligations.SyncOutOfToleranceMisses := by
  intro s closes sch n rest hhanded hcloses d hout out hstate
  obtain ⟨hgroups, hstreams, hpool, hports, hbanks, hpending⟩ := takeSync_frame s
  rcases hstate with hs | hs
  · have htake := takeSync_missed hhanded hs hout
    have hpt : (takeSync s).pt = s.pt := by
      rw [htake]
      unfold missSync
      dsimp only
      split <;> rfl
    have hexec := exec_syncTaken_sync sch (hcloses.imp_right (fun h => ⟨h, by rw [hpt, h]⟩))
    refine ⟨_, hexec, hpt, hgroups, hstreams, hpool, hports, hbanks, hpending, fun _ hfew => ?_, fun _ hmany => ?_,
      fun h => (nomatch hs.symm.trans h)⟩
    · rw [htake, missSync_few (s := s.recorded rest) hfew]
      exact ⟨rfl, rfl⟩
    · rw [htake, missSync_many (s := s.recorded rest) hmany]
      exact ⟨rfl, noticeQueued_enqueueNotice _ _ _⟩
  · have htake := takeSync_refused hhanded hs hout
    have hpt : (takeSync s).pt = s.pt := by rw [htake]; rfl
    have hexec := exec_syncTaken_sync sch (hcloses.imp_right (fun h => ⟨h, by rw [hpt, h]⟩))
    refine ⟨_, hexec, hpt, hgroups, hstreams, hpool, hports, hbanks, hpending, fun h => (nomatch hs.symm.trans h),
      fun h => (nomatch hs.symm.trans h), fun _ => ?_⟩
    rw [htake]
    exact ⟨rfl, noticeQueued_enqueueNotice _ _ _⟩

/-! ### Forced closes, group by group (R12, R41) -/

/-- An emission changes the emission count and three counters of its group. -/
theorem emit_groups (g : GroupId) (v : Samples) (short : Bool) (u : State) :
    (∀ h : GroupId, h ≠ g → (emit g v short u).groups[h] = u.groups[h]) ∧
    ∃ e k1 k2 k3, (emit g v short u).groups[g] = { u.groups[g] with
      emission := e, counters := { u.groups[g].counters with emitted := k1, lost := k2, noDest := k3 } } := by
  have changed : ∀ (t : State) (f : Accum → Accum), t.groups = u.groups →
      (∃ e k1 k2 k3, f u.groups[g] = { u.groups[g] with
        emission := e, counters := { u.groups[g].counters with emitted := k1, lost := k2, noDest := k3 } }) → ∀ m,
      (∀ h : GroupId, h ≠ g → ({ t.modGroup g f with me := m } : State).groups[h] = u.groups[h]) ∧
      ∃ e k1 k2 k3, ({ t.modGroup g f with me := m } : State).groups[g] = { u.groups[g] with
        emission := e, counters := { u.groups[g].counters with emitted := k1, lost := k2, noDest := k3 } } := by
    intro t f ht hf m
    obtain ⟨e, k1, k2, k3, hf⟩ := hf
    refine ⟨fun h hh => ?_, e, k1, k2, k3, ?_⟩
    · refine (modGroup_other f hh).trans ?_
      simp only [ht]
    · refine (modGroup_own t g f).trans ?_
      simp only [ht]
      exact hf
  have hdrop : (countDrops (u.groupRec g).dest none u).groups = u.groups := by rw [countDrops_state]
  cases hbuffer : takeBuffer u with
  | none =>
    rw [emit_lost hbuffer]
    exact changed u _ rfl ⟨_, _, _, _, rfl⟩ _
  | some b =>
    by_cases htake : takeSet (u.groupRec g).dest none u = []
    · rw [emit_noDest hbuffer htake]
      exact changed _ _ hdrop ⟨_, _, _, _, rfl⟩ _
    · rw [emit_taken hbuffer htake]
      refine changed _ Accum.emitted ?_ ⟨_, _, _, _, rfl⟩ _
      rw [appendToAll_state]
      exact hdrop

/-- A window that a forced close has ended: CUT set and counted, what has arrived and what is held kept (R41, R54). -/
structure CutShort (r : GroupRec) (a a' : Accum) : Prop where
  state : a'.state = afterClose r.mode
  cut : a'.cut = true
  counted : a'.counters.cut = satAdd a.counters.cut 1
  arrived : a'.arrived = a.arrived
  holds : a'.holds = a.holds

theorem closeGroup_groups {g : GroupId} {s : State} (hopen : s.groups[g].state = .opened) :
    (∀ h : GroupId, h ≠ g → (closeGroup true g s).groups[h] = s.groups[h]) ∧
    CutShort (s.groupRec g) s.groups[g] (closeGroup true g s).groups[g] := by
  have emitted : ∀ (v : Samples) (short : Bool) (x : Accum) (m : Management),
      x.cut = true → x.counters.cut = satAdd s.groups[g].counters.cut 1 → x.arrived = s.groups[g].arrived →
      x.holds = s.groups[g].holds →
      let t := (emit g v short (s.working g x m)).modGroup g (Accum.closed (s.groupRec g))
      (∀ h : GroupId, h ≠ g → t.groups[h] = s.groups[h]) ∧ CutShort (s.groupRec g) s.groups[g] t.groups[g] := by
    intro v short x m hcut hcount harrived hholds t
    obtain ⟨hothers, e, k1, k2, k3, hown⟩ := emit_groups g v short (s.working g x m)
    rw [working_own] at hown
    have ht : t.groups[g] = Accum.closed (s.groupRec g) { x with
        emission := e, counters := { x.counters with emitted := k1, lost := k2, noDest := k3 } } :=
      (modGroup_own _ g _).trans (by rw [hown])
    refine ⟨fun h hh => (modGroup_other _ hh).trans ((hothers h hh).trans (working_other hh)), ?_⟩
    rw [ht]
    exact ⟨rfl, hcut, hcount, harrived, hholds⟩
  by_cases hq : (s.groupRec g).quorum ≤ arrivals s.groups[g]
  · rw [closeGroup_formed hopen hq]
    refine emitted _ _ _ _ ?_ ?_ ?_ ?_ <;> unfold Accum.fillMarked <;> split <;> rfl
  · cases hshort : (s.groupRec g).onShort with
    | mute =>
      rw [closeGroup_muted hopen (Nat.lt_of_not_le hq) hshort]
      exact emitted _ _ _ _ rfl rfl rfl rfl
    | suppress =>
      rw [closeGroup_suppressed hopen (Nat.lt_of_not_le hq) hshort]
      refine ⟨fun h hh => working_other hh, ?_⟩
      rw [working_own]
      exact ⟨rfl, rfl, rfl, rfl, rfl⟩

theorem closeGroup_other {g h : GroupId} {s : State} (hne : h ≠ g) : (closeGroup true g s).groups[h] = s.groups[h] := by
  by_cases hopen : s.groups[g].state = .opened
  · exact (closeGroup_groups hopen).1 h hne
  · rw [closeGroup_shut hopen]

theorem closeGroup_groupRec (forced : Bool) (g h : GroupId) (s : State) :
    (closeGroup forced g s).groupRec h = s.groupRec h := by
  unfold State.groupRec
  simp only [(closeGroup_frame forced g s).2.2.2.1]

theorem forceCloses_cons (g : GroupId) (l : List GroupId) (s : State) :
    forceCloses (g :: l) s = forceCloses l (closeGroup true g s) := rfl

theorem forceCloses_group_shut {g : GroupId} (l : List GroupId) {s : State} (h : s.groups[g].state ≠ .opened) :
    (forceCloses l s).groups[g] = s.groups[g] := by
  induction l generalizing s with
  | nil => rfl
  | cons x l ih =>
    have hstep : (closeGroup true x s).groups[g] = s.groups[g] := by
      by_cases hx : g = x
      · subst hx
        rw [closeGroup_shut h]
      · exact closeGroup_other hx
    rw [forceCloses_cons, ih (by rw [hstep]; exact h), hstep]

theorem forceCloses_group_opened {g : GroupId} {l : List GroupId} {s : State} (h : s.groups[g].state = .opened)
    (hmem : g ∈ l) : CutShort (s.groupRec g) s.groups[g] (forceCloses l s).groups[g] := by
  induction l generalizing s with
  | nil => exact absurd hmem List.not_mem_nil
  | cons x l ih =>
    rw [forceCloses_cons]
    by_cases hx : g = x
    · subst hx
      obtain ⟨-, hcut⟩ := closeGroup_groups h
      rw [forceCloses_group_shut l (by rw [hcut.state]; exact (afterClose_ne _).2.2)]
      exact hcut
    · have hstep : (closeGroup true x s).groups[g] = s.groups[g] := closeGroup_other hx
      have hrest := ih (s := closeGroup true x s) (by rw [hstep]; exact h)
        ((List.mem_cons.mp hmem).resolve_left hx)
      rwa [hstep, closeGroup_groupRec] at hrest

theorem forceCloses_append (l m : List GroupId) (s : State) : forceCloses (l ++ m) s = forceCloses m (forceCloses l s) :=
  List.foldl_append

/-! ### The commands of a step -/

section
variable {s : State} (sch : List BoundaryAct)

theorem exec_syncTaken_only (hstep : s.pt.stepRequest ≠ none) (l : List GroupId) :
    exec (.syncTaken (.only l) sch) s = .next (forceCloses l s) := by
  obtain ⟨n, hn⟩ := Option.ne_none_iff_exists'.mp hstep
  have hfirst : takeSyncFirst (.only l) s = s := if_neg hstep
  simp only [exec, execSyncTaken, hfirst, carryStep, hn]

theorem exec_syncTaken_of_step {n : Half} (hn : s.pt.stepRequest = some n) (first : List GroupId) :
    exec (.syncTaken (.all first) sch) s = .next (if stepWaits s
      then forceCloses (first ++ allGroups) s
      else takeBoundary (.step n) sch (forceCloses (first ++ allGroups) s)) := by
  have hfirst : takeSyncFirst (.all first) s = s := if_neg (by rw [hn]; nofun)
  simp only [exec, execSyncTaken, hfirst, carryStep, hn]

end

/-- Settles O26. -/
theorem acquiringSyncSteps : Obligations.AcquiringSyncSteps := by
  refine ⟨fun s n rest hhanded hacquire => ?_, fun s g l sch hstep => ?_, fun s first sch hstep hmoves hwaits => ?_,
    fun s first sch n rest hhanded hnone hacquire hnot => ?_⟩
  · -- TF takes the SYNC.
    have htake := takeSync_acquire hhanded hacquire
    refine ⟨takeSync s, fun sch => exec_syncTaken_sync sch (.inl rfl), fun hnone closes sch hcloses => ?_, by rw [htake]; rfl, ?_⟩
    · have hasked : (takeSync s).pt.stepRequest ≠ none := by rw [htake]; nofun
      have hfirst : takeSyncFirst closes s = takeSync s := by
        rcases takeSyncFirst_cases closes s with ⟨-, e⟩ | ⟨-, hs, -⟩
        · exact e
        · exact absurd hnone hs
      have hsecond : takeSyncFirst closes (takeSync s) = takeSync s := by
        rcases takeSyncFirst_cases closes (takeSync s) with ⟨h, -⟩ | ⟨-, -, e⟩
        · exact absurd h (not_or.mpr ⟨hcloses, hasked⟩)
        · exact e
      simp only [exec, execSyncTaken, hfirst, hsecond]
    · rw [htake]
      exact noticeQueued_enqueueNotice _ _ _
  · -- One forced close.
    obtain ⟨n, hn⟩ := Option.ne_none_iff_exists'.mp hstep
    obtain ⟨hpt, htf, -, hbanks, -⟩ := closeGroup_frame true g s
    have hwait : stepWaits (closeGroup true g s) = stepWaits s := by
      unfold stepWaits swapMovesTiming
      rw [htf, hbanks]
    have hn' : (closeGroup true g s).pt.stepRequest = some n := by rw [hpt, hn]
    refine ⟨closeGroup true g s, exec_syncTaken_only sch hstep [g], hpt, htf, ?_, ?_, ?_, closeGroup_shut⟩
    · rw [exec_syncTaken_only sch hstep, exec_syncTaken_only sch (by rw [hn']; nofun), forceCloses_cons]
    · rw [exec_syncTaken_of_step sch hn, exec_syncTaken_of_step sch hn', hwait, List.cons_append, forceCloses_cons]
    · have htwice : forceCloses (List.finRange 64 ++ allGroups) s = forceCloses ([] ++ allGroups) s := by
        rw [forceCloses_append]
        exact forceCloses_shut (forceCloses_all_shut [] s) allGroups
      rw [exec_syncTaken_of_step sch hn, exec_syncTaken_of_step sch hn, htwice]
  · -- The step waits for a SYNC.
    obtain ⟨n, hn⟩ := Option.ne_none_iff_exists'.mp hstep
    have hwait : stepWaits s = true := (stepWaits_iff s).mpr ⟨hmoves, hwaits⟩
    rw [exec_syncTaken_of_step sch hn, if_pos hwait, exec_syncTaken_only sch hstep]
    rfl
  · -- The whole step.
    have htake := takeSync_acquire hhanded hacquire
    obtain ⟨hgroups, hstreams, hpool, hports, hbanks, hpending⟩ := takeSync_frame s
    have hasked : (takeSync s).pt.stepRequest = some n := by rw [htake]; rfl
    have hmoves : ¬ MovesTiming (takeSync s) := fun h => hnot (by rw [← hbanks]; exact h.1)
    have hexec : exec (.syncTaken (.all first) sch) s =
        .next (takeBoundary (.step n) sch (forceCloses (first ++ allGroups) (takeSync s))) := by
      have hfirst : takeSyncFirst (.all first) s = takeSync s := if_pos hnone
      simp only [exec, execSyncTaken, hfirst]
      rw [carryStep_all first sch hasked (fun h => absurd h hmoves)]
    obtain ⟨hcpt, hctf, hcstreams, hcbanks, hcpending, hcreq, hcslots, -⟩ :=
      forceCloses_frame (first ++ allGroups) (takeSync s)
    have hclosed : ∀ g : GroupId, (s.groups[g].state = .opened →
        CutShort (s.groupRec g) s.groups[g] (forceCloses (first ++ allGroups) (takeSync s)).groups[g]) ∧
        (s.groups[g].state ≠ .opened →
          (forceCloses (first ++ allGroups) (takeSync s)).groups[g] = s.groups[g]) := by
      intro g
      have hsame : (takeSync s).groups[g] = s.groups[g] := by simp only [hgroups]
      have hrec : (takeSync s).groupRec g = s.groupRec g := by simp only [State.groupRec, hbanks]
      refine ⟨fun h => ?_, fun h => ?_⟩
      · have := forceCloses_group_opened (s := takeSync s) (by rw [hsame]; exact h)
          (List.mem_append_right first (mem_allGroups g))
        rwa [hsame, hrec] at this
      · rw [forceCloses_group_shut _ (by rw [hsame]; exact h), hsame]
    generalize forceCloses (first ++ allGroups) (takeSync s) = u at *
    have hunot : u.banks.state ≠ .armed := by rw [hcbanks, hbanks]; exact hnot
    have hswap : afterSwap u = u := if_neg hunot
    have hpart : u.nextPart = s.part := by
      rw [nextPart_of_not_armed hunot, State.part, hcbanks, hbanks]
      rfl
    obtain ⟨-, -, htstreams, htbanks, htpending, htreq, -⟩ := takeBoundary_frame (.step n) sch u
    rw [hswap] at htstreams htbanks
    have hpt : (takeBoundary (.step n) sch u).pt = beginPeriod (.step n) s.part u.pt := by
      rw [takeBoundary_pt, hpart]
    have hphase : u.pt.phase = s.pt.phase := by rw [hcpt, htake]; rfl
    have hutf : u.tf = { s.tf with
        state := .locked, miss := 0, silent := 0, seen := true, lastOffset := some (offsetNow s)
        steps := satAdd s.tf.steps 1, handed := rest } := by
      rw [hctf, htake]
      rfl
    refine ⟨_, hexec, by rw [hpt]; rfl, by rw [hpt]; rfl, by rw [hpt]; rfl, by rw [hpt]; rfl, by rw [hpt]; rfl, ?_, ?_,
      htstreams.trans (hcstreams.trans hstreams), htbanks.trans (hcbanks.trans hbanks),
      htpending.trans (hcpending.trans hpending), ?_, ?_, fun g => ?_⟩
    · rw [hpt, ← hphase]
      rfl
    · obtain ⟨-, -, hrest⟩ := takeBoundary_silentChecked (k := .step n) (sch := sch) (s := u) (fun h => absurd h hunot)
      rw [hutf] at hrest
      have hseen : (Follower.checkedSilent { s.tf with
        state := .locked, miss := 0, silent := 0, seen := true, lastOffset := some (offsetNow s)
        steps := satAdd s.tf.steps 1, handed := rest }) = 0 := rfl
      rw [hseen] at hrest
      exact hrest nofun (fun h => absurd h.2 (by decide))
    · rw [htreq, hcreq, htake]
      exact (enqueueNotice_frame _ _ _).1
    · have hslots : (takeBoundary (.step n) sch u).me.slots = u.me.slots := by
        refine Vector.ext (fun i hi => ?_)
        exact ((takeBoundary_returned (.step n) sch u).2 ⟨i, hi⟩).2
          (fun p hp => absurd ((swapDrops_not_armed hunot p).symm.trans hp) nofun)
      rw [hslots, hcslots, htake]
      exact enqueueNotice_slots _ _ _
    · rw [takeBoundary_group, enterPeriod_group, if_neg (fun h => hunot h.1)]
      obtain ⟨hopened, hshut⟩ := hclosed g
      refine ⟨fun h => ?_, fun h => ?_, fun h hd => ?_⟩
      · obtain ⟨hstate, hcut, hcounted, harrived, hholds⟩ := hopened h
        cases hmode : (s.groupRec g).mode with
        | continuous =>
          rw [hmode] at hstate
          have hdone : u.groups[g].state = .done := hstate
          rw [if_pos hdone]
          exact ⟨(congrArg (fun m : GroupMode => (match m with | .continuous => .idle | .oneShot => .spent : AccState)) hmode).symm,
            hcut, hcounted, harrived, hholds⟩
        | oneShot =>
          rw [hmode] at hstate
          rw [if_neg (by rw [hstate]; nofun)]
          exact ⟨hstate.trans (congrArg (fun m : GroupMode => (match m with | .continuous => .idle | .oneShot => .spent : AccState)) hmode).symm,
            hcut, hcounted, harrived, hholds⟩
      · rw [hshut (by rw [h]; nofun), if_pos h]
      · rw [hshut h, if_neg hd]

end Sys2Proof.Machine
end

section
/-!
The arithmetic of the Combine Engine: the running result and the formed output (R23 to R25, R43 to R46).
-/

namespace Sys2Proof.Machine

/-! ### The running result (R23 to R25) -/

theorem zipWith_right_comm {f : Int → Int → Int} (h : ∀ x y z, f (f x y) z = f (f x z) y) (w u v : Samples) :
    List.zipWith f (List.zipWith f w u) v = List.zipWith f (List.zipWith f w v) u := by
  induction w generalizing u v with
  | nil => rfl
  | cons x w ih =>
    cases u with
    | nil => cases v <;> rfl
    | cons y u =>
      cases v with
      | nil => rfl
      | cons z v => simp only [List.zipWith_cons_cons, h, ih]

theorem combineValues_right_comm (op : CombineOp) (w u v : Samples) :
    combineValues op (combineValues op w u) v = combineValues op (combineValues op w v) u := by
  cases op
  · exact zipWith_right_comm add_right_comm w u v
  · exact zipWith_right_comm max_right_comm w u v
  · exact zipWith_right_comm min_right_comm w u v
  · exact zipWith_right_comm add_right_comm w u v

/-- Two contributions of different slots commute. -/
theorem updateRunning_comm (op : CombineOp) {i j : Slot} (hne : i ≠ j) (u v : Samples) (x : Running) :
    updateRunning op j v (updateRunning op i u x) = updateRunning op i u (updateRunning op j v x) := by
  have leads : ∀ {k l : Slot} {w z : Samples}, updateRunning op l z (.lead (some (k, w))) =
    if l < k then .lead (some (l, z)) else .lead (some (k, w)) := rfl
  match x with
  | .values w => exact congrArg Running.values (combineValues_right_comm op w u v)
  | .lead none =>
    have hi : updateRunning op i u (.lead none) = .lead (some (i, u)) := rfl
    have hj : updateRunning op j v (.lead none) = .lead (some (j, v)) := rfl
    rw [hi, hj, leads, leads]
    by_cases h : j < i
    · rw [if_pos h, if_neg (lt_asymm h)]
    · rw [if_neg h, if_pos (lt_of_le_of_ne (not_lt.mp h) hne)]
  | .lead (some (k, w)) =>
    rw [leads, leads]
    by_cases hik : i < k <;> by_cases hjk : j < k
    · rw [if_pos hik, if_pos hjk, leads, leads]
      by_cases h : j < i
      · rw [if_pos h, if_neg (lt_asymm h)]
      · rw [if_neg h, if_pos (lt_of_le_of_ne (not_lt.mp h) hne)]
    · rw [if_pos hik, if_neg hjk, leads, leads, if_neg (fun h => hjk (lt_trans h hik)), if_pos hik]
    · rw [if_neg hik, if_pos hjk, leads, leads, if_pos hjk, if_neg (fun h => hik (lt_trans h hjk))]
    · rw [if_neg hik, if_neg hjk, leads, leads, if_neg hjk, if_neg hik]

/-- Settles O37. -/
theorem runningResultIgnoresOrder : Obligations.RunningResultIgnoresOrder := by
  intro r x l m _ hperm hslots
  refine hperm.foldl_eq' (fun c hc c' hc' y => ?_) x
  by_cases h : c = c'
  · subst h
    rfl
  · exact updateRunning_comm r.op (fun e => h (List.inj_on_of_nodup_map hslots hc hc' e)) c.2 c'.2 y

/-! ### The filled slots (R43) -/

/-- The held samples that fill HOLD brings in for slot `i` (R43). -/
def fillOf (r : GroupRec) (a : Accum) (i : Slot) : Option Samples :=
  if r.fill = .hold ∧ i.val < r.contributors ∧ a.arrived[i] = none then a.holds[i] else none

theorem filledSlots_eq (r : GroupRec) (a : Accum) :
    filledSlots r a = allSlots.filterMap (fun i => (fillOf r a i).map (fun v => (i, v))) := by
  unfold filledSlots
  cases hfill : r.fill with
  | identity => simp [fillOf, hfill]
  | hold =>
    refine congrArg (fun f => List.filterMap f allSlots) (funext fun i => ?_)
    unfold fillOf
    by_cases h : i.val < r.contributors ∧ a.arrived[i] = none
    · rw [if_pos h, if_pos ⟨hfill, h⟩]
    · rw [if_neg h, if_neg (fun h' => h h'.2)]
      rfl

theorem allSlots_ascending : allSlots.Pairwise (· < ·) := by decide

theorem mem_allSlots (i : Slot) : i ∈ allSlots := by revert i; decide

theorem mem_filledSlots {r : GroupRec} {a : Accum} {i : Slot} {v : Samples} :
    (i, v) ∈ filledSlots r a ↔ fillOf r a i = some v := by
  rw [filledSlots_eq, List.mem_filterMap]
  constructor
  · rintro ⟨j, -, hj⟩
    obtain ⟨u, hu, hpair⟩ := Option.map_eq_some_iff.mp hj
    obtain ⟨rfl, rfl⟩ := Prod.mk.inj hpair
    exact hu
  · exact fun h => ⟨i, mem_allSlots i, by rw [h]; rfl⟩

theorem filledSlots_nil {r : GroupRec} {a : Accum} (h : ∀ i, fillOf r a i = none) : filledSlots r a = [] :=
  List.eq_nil_iff_forall_not_mem.mpr fun ⟨i, _⟩ hm => nomatch (h i).symm.trans (mem_filledSlots.mp hm)

/-- The filled slots stand in ascending order: the lowest comes first. -/
theorem filledSlots_cons {r : GroupRec} {a : Accum} {j : Slot} {u : Samples} (hj : fillOf r a j = some u)
    (hbelow : ∀ k : Slot, k < j → fillOf r a k = none) :
    ∃ rest, filledSlots r a = (j, u) :: rest ∧ ∀ x ∈ rest, j < x.1 := by
  obtain ⟨l, m, hsplit⟩ := List.append_of_mem (mem_allSlots j)
  have hascending := allSlots_ascending
  rw [hsplit, List.pairwise_append, List.pairwise_cons] at hascending
  obtain ⟨-, ⟨habove, -⟩, hlow⟩ := hascending
  refine ⟨m.filterMap (fun i => (fillOf r a i).map (fun v => (i, v))), ?_, fun x hx => ?_⟩
  · have hnone : l.filterMap (fun i => (fillOf r a i).map (fun v => (i, v))) = [] := by
      rw [List.filterMap_eq_nil_iff]
      intro k hk
      rw [hbelow k (hlow k hk j (List.mem_cons_self ..))]
      rfl
    rw [filledSlots_eq, hsplit, List.filterMap_append, hnone, List.nil_append,
      List.filterMap_cons_some (by rw [hj]; rfl)]
  · obtain ⟨k, hk, hkx⟩ := List.mem_filterMap.mp hx
    obtain ⟨v, -, rfl⟩ := Option.map_eq_some_iff.mp hkx
    exact habove k hk

/-! ### The samples, position by position -/

theorem combineValues_length {op : CombineOp} {n : Nat} {w v : Samples} (hw : w.length = n) (hv : v.length = n) :
    (combineValues op w v).length = n := by
  cases op <;> simp [combineValues, hw, hv]

/-- The operation of an op at one position. -/
def positionOp (op : CombineOp) (x y : Int) : Int :=
  match op with
  | .sum | .priority => x + y
  | .max => x ⊔ y
  | .min => x ⊓ y

theorem combineValues_eq (op : CombineOp) (w v : Samples) : combineValues op w v = List.zipWith (positionOp op) w v := by
  cases op <;> rfl

theorem combineValues_getD {op : CombineOp} {n k : Nat} {w v : Samples} (hw : w.length = n) (hv : v.length = n)
    (hk : k < n) : (combineValues op w v).getD k 0 = positionOp op (w.getD k 0) (v.getD k 0) := by
  rw [combineValues_eq, List.getD_eq_getElem _ _ (by simp [hw, hv, hk]), List.getElem_zipWith,
    List.getD_eq_getElem _ _ (by omega), List.getD_eq_getElem _ _ (by omega)]

section
variable {op : CombineOp} {n : Nat} {l : List (Slot × Samples)}

theorem fold_length (hl : ∀ x ∈ l, x.2.length = n) {w : Samples} (hw : w.length = n) :
    (l.foldl (fun x f => combineValues op x f.2) w).length = n := by
  induction l generalizing w with
  | nil => exact hw
  | cons x l ih =>
    exact ih (fun y hy => hl y (List.mem_cons_of_mem _ hy))
      (combineValues_length hw (hl x (List.mem_cons_self ..)))

theorem fold_getD {k : Nat} (hk : k < n) (hl : ∀ x ∈ l, x.2.length = n) {w : Samples} (hw : w.length = n) :
    (l.foldl (fun x f => combineValues op x f.2) w).getD k 0 =
      l.foldl (fun z f => positionOp op z (f.2.getD k 0)) (w.getD k 0) := by
  induction l generalizing w with
  | nil => rfl
  | cons x l ih =>
    have hx := hl x (List.mem_cons_self ..)
    rw [List.foldl_cons, ih (fun y hy => hl y (List.mem_cons_of_mem _ hy)) (combineValues_length hw hx),
      combineValues_getD hw hx hk]
    rfl

theorem fold_sum (g : Slot × Samples → Int) (z : Int) : l.foldl (fun z f => z + g f) z = z + (l.map g).sum := by
  induction l generalizing z with
  | nil => simp
  | cons x l ih => rw [List.foldl_cons, ih, List.map_cons, List.sum_cons, add_assoc]

theorem fold_max (g : Slot × Samples → Int) (z : Int) :
    (l.foldl (fun z f => max z (g f)) z = z ∨ ∃ x ∈ l, l.foldl (fun z f => max z (g f)) z = g x) ∧
    z ≤ l.foldl (fun z f => max z (g f)) z ∧ ∀ x ∈ l, g x ≤ l.foldl (fun z f => max z (g f)) z := by
  induction l generalizing z with
  | nil => exact ⟨.inl rfl, le_rfl, nofun⟩
  | cons x l ih =>
    obtain ⟨hfrom, hge, hall⟩ := ih (max z (g x))
    refine ⟨?_, (le_max_left ..).trans hge, fun y hy => ?_⟩
    · rcases hfrom with h | ⟨y, hy, h⟩
      · rcases max_choice z (g x) with hm | hm
        · exact .inl (h.trans hm)
        · exact .inr ⟨x, List.mem_cons_self .., h.trans hm⟩
      · exact .inr ⟨y, List.mem_cons_of_mem _ hy, h⟩
    · rcases List.mem_cons.mp hy with rfl | hy
      · exact (le_max_right ..).trans hge
      · exact hall y hy

theorem fold_min (g : Slot × Samples → Int) (z : Int) :
    (l.foldl (fun z f => min z (g f)) z = z ∨ ∃ x ∈ l, l.foldl (fun z f => min z (g f)) z = g x) ∧
    l.foldl (fun z f => min z (g f)) z ≤ z ∧ ∀ x ∈ l, l.foldl (fun z f => min z (g f)) z ≤ g x := by
  induction l generalizing z with
  | nil => exact ⟨.inl rfl, le_rfl, nofun⟩
  | cons x l ih =>
    obtain ⟨hfrom, hle, hall⟩ := ih (min z (g x))
    refine ⟨?_, hle.trans (min_le_left ..), fun y hy => ?_⟩
    · rcases hfrom with h | ⟨y, hy, h⟩
      · rcases min_choice z (g x) with hm | hm
        · exact .inl (h.trans hm)
        · exact .inr ⟨x, List.mem_cons_self .., h.trans hm⟩
      · exact .inr ⟨y, List.mem_cons_of_mem _ hy, h⟩
    · rcases List.mem_cons.mp hy with rfl | hy
      · exact hle.trans (min_le_right ..)
      · exact hall y hy

/-- Every sample lies in the sample range. -/
def InRange (v : Samples) : Prop := ∀ x ∈ v, -8388608 ≤ x ∧ x ≤ 8388607

theorem zipWith_inRange {f : Int → Int → Int} (hf : ∀ x y, f x y = x ∨ f x y = y) {w v : Samples} (hw : InRange w)
    (hv : InRange v) : InRange (List.zipWith f w v) := by
  intro z hz
  obtain ⟨k, hk, rfl⟩ := List.mem_iff_getElem.mp hz
  rw [List.length_zipWith] at hk
  rw [List.getElem_zipWith]
  rcases hf (w[k]'(by omega)) (v[k]'(by omega)) with h | h <;> rw [h]
  · exact hw _ (List.getElem_mem _)
  · exact hv _ (List.getElem_mem _)

theorem fold_inRange (hop : op = .max ∨ op = .min) (hl : ∀ x ∈ l, InRange x.2) {w : Samples} (hw : InRange w) :
    InRange (l.foldl (fun x f => combineValues op x f.2) w) := by
  induction l generalizing w with
  | nil => exact hw
  | cons x l ih =>
    refine ih (fun y hy => hl y (List.mem_cons_of_mem _ hy)) ?_
    have hx := hl x (List.mem_cons_self ..)
    rcases hop with rfl | rfl
    · exact zipWith_inRange max_choice hw hx
    · exact zipWith_inRange min_choice hw hx

theorem zeros_inRange (n : Nat) : InRange (List.replicate n 0) := by
  intro x hx
  rw [List.eq_of_mem_replicate hx]
  decide

theorem saturated_inRange (v : Samples) : InRange (v.map saturateSample) := by
  intro x hx
  obtain ⟨y, -, rfl⟩ := List.mem_map.mp hx
  simp only [saturateSample, Config.minSample, Config.maxSample]
  omega

end

end Sys2Proof.Machine
end

section
/-!
The samples of a formed output, op by op (R43 to R46).
-/

namespace Sys2Proof.Machine

/-! ### The participant of the lowest slot (R46) -/

/-- The comparison of `lowestSlot` at one participant. -/
def lowerSlot (best : Option (Slot × Samples)) (x : Slot × Samples) : Option (Slot × Samples) :=
  match best with
  | none => some x
  | some y => if x.1 < y.1 then some x else some y

theorem lowestSlot_eq (l : List (Slot × Samples)) : lowestSlot l = l.foldl lowerSlot none := rfl

theorem lowest_stays {y : Slot × Samples} {l : List (Slot × Samples)} (h : ∀ x ∈ l, ¬ x.1 < y.1) :
    l.foldl lowerSlot (some y) = some y := by
  induction l with
  | nil => rfl
  | cons x l ih =>
    have hx : lowerSlot (some y) x = some y := if_neg (h x (List.mem_cons_self ..))
    rw [List.foldl_cons, hx, ih (fun z hz => h z (List.mem_cons_of_mem _ hz))]

theorem lowest_mem (l : List (Slot × Samples)) (best : Option (Slot × Samples)) :
    l.foldl lowerSlot best = best ∨ ∃ x ∈ l, l.foldl lowerSlot best = some x := by
  induction l generalizing best with
  | nil => exact .inl rfl
  | cons x l ih =>
    rcases ih (lowerSlot best x) with h | ⟨y, hy, h⟩
    · have hx : lowerSlot best x = best ∨ lowerSlot best x = some x := by
        cases best with
        | none => exact .inr rfl
        | some y => exact (ite_eq_or_eq _ _ _).symm
      exact hx.imp (fun e => h.trans e) (fun e => ⟨x, List.mem_cons_self .., h.trans e⟩)
    · exact .inr ⟨y, List.mem_cons_of_mem _ hy, h⟩

/-! ### Each op -/

section
variable {r : GroupRec} {a : Accum}

theorem formOutput_sum (h : r.op = .sum) : formOutput r a =
    ((filledSlots r a).foldl (fun x f => combineValues .sum x f.2) (runningValues r a.result)).map saturateSample := by
  simp only [formOutput, h]

theorem formOutput_extreme (h : r.op = .max ∨ r.op = .min) : formOutput r a =
    if arrivals a = 0 ∧ filledSlots r a = [] then List.replicate r.sampleCount 0
    else (filledSlots r a).foldl (fun x f => combineValues r.op x f.2) (runningValues r a.result) := by
  rcases h with h | h <;> simp only [formOutput, h]

theorem formOutput_priority (h : r.op = .priority) : formOutput r a =
    (((priorityParticipants a.result (filledSlots r a)).foldl lowerSlot none).map (·.2)).getD
      (List.replicate r.sampleCount 0) := by
  simp only [formOutput, h]
  rfl

theorem op_cases (op : CombineOp) : op = .sum ∨ (op = .max ∨ op = .min) ∨ op = .priority := by
  cases op <;> simp

/-- What a formed output is made of has the property `P`: the running values, the leading samples, the filled ones. -/
def Parts (r : GroupRec) (a : Accum) (P : Samples → Prop) : Prop :=
  (∀ w, a.result = .values w → P w) ∧ (∀ i v, a.result = .lead (some (i, v)) → P v) ∧ ∀ i v, fillOf r a i = some v → P v

theorem Parts.running {P : Samples → Prop} (h : Parts r a P) (hzeros : P (List.replicate r.sampleCount 0)) :
    P (runningValues r a.result) := by
  cases hx : a.result with
  | values w => exact h.1 w hx
  | lead o => exact hzeros

theorem Parts.filled {P : Samples → Prop} (h : Parts r a P) : ∀ x ∈ filledSlots r a, P x.2 :=
  fun ⟨i, v⟩ hx => h.2.2 i v (mem_filledSlots.mp hx)

theorem Parts.lowest {P : Samples → Prop} (h : Parts r a P) (hzeros : P (List.replicate r.sampleCount 0)) :
    P ((((priorityParticipants a.result (filledSlots r a)).foldl lowerSlot none).map (·.2)).getD
      (List.replicate r.sampleCount 0)) := by
  rcases lowest_mem (priorityParticipants a.result (filledSlots r a)) none with e | ⟨x, hx, e⟩
  · rw [e]
    exact hzeros
  · rw [e]
    unfold priorityParticipants at hx
    split at hx
    next y hy =>
      rcases List.mem_cons.mp hx with rfl | hx
      · exact h.2.1 x.1 x.2 hy
      · exact h.filled x hx
    all_goals exact h.filled x hx

theorem formOutput_length (h : Parts r a (·.length = r.sampleCount)) : (formOutput r a).length = r.sampleCount := by
  have hzeros : (List.replicate r.sampleCount (0 : Int)).length = r.sampleCount := List.length_replicate ..
  rcases op_cases r.op with hop | hop | hop
  · rw [formOutput_sum hop, List.length_map]
    exact fold_length h.filled (h.running hzeros)
  · rw [formOutput_extreme hop]
    split
    · exact hzeros
    · exact fold_length h.filled (h.running hzeros)
  · rw [formOutput_priority hop]
    exact h.lowest hzeros

theorem formOutput_inRange (h : r.op = .sum ∨ Parts r a InRange) : InRange (formOutput r a) := by
  rcases op_cases r.op with hop | hop | hop
  · rw [formOutput_sum hop]
    exact saturated_inRange _
  · have hparts : Parts r a InRange := h.resolve_left (fun e => by rcases hop with hop | hop <;> exact nomatch e.symm.trans hop)
    rw [formOutput_extreme hop]
    split
    · exact zeros_inRange _
    · exact fold_inRange hop hparts.filled (hparts.running (zeros_inRange _))
  · have hparts : Parts r a InRange := h.resolve_left (fun e => nomatch e.symm.trans hop)
    rw [formOutput_priority hop]
    exact hparts.lowest (zeros_inRange _)

theorem saturateSample_eq (x : Int) : saturateSample x = max (-8388608) (min 8388607 x) := by
  simp only [saturateSample, Config.minSample, Config.maxSample]
  omega

/-- The samples that the filled slots bring in, added up over all slots. -/
theorem filledSlots_sum (r : GroupRec) (a : Accum) (k : Nat) : ((filledSlots r a).map (fun f => f.2.getD k 0)).sum =
    (allSlots.map (fun i => ((fillOf r a i).getD []).getD k 0)).sum := by
  rw [filledSlots_eq]
  induction allSlots with
  | nil => rfl
  | cons i l ih =>
    cases hi : fillOf r a i with
    | none => rw [List.filterMap_cons_none (by rw [hi]; rfl), ih, List.map_cons, List.sum_cons, hi]; simp
    | some v =>
      rw [List.filterMap_cons_some (by rw [hi]; rfl), List.map_cons, List.sum_cons, ih, List.map_cons, List.sum_cons, hi]
      rfl

theorem filled_lengths (h : ∀ i v, fillOf r a i = some v → v.length = r.sampleCount) :
    ∀ x ∈ filledSlots r a, x.2.length = r.sampleCount := fun ⟨i, v⟩ hx => h i v (mem_filledSlots.mp hx)

theorem formOutput_sum_at {w : Samples} {k : Nat} (hop : r.op = .sum) (hw : a.result = .values w)
    (hlength : w.length = r.sampleCount) (hk : k < r.sampleCount)
    (hfills : ∀ i v, fillOf r a i = some v → v.length = r.sampleCount) :
    (formOutput r a).getD k 0 = max (-8388608) (min 8388607
      (w.getD k 0 + (allSlots.map (fun i => ((fillOf r a i).getD []).getD k 0)).sum)) := by
  have hrun : runningValues r a.result = w := by rw [hw]; rfl
  have hl := filled_lengths hfills
  have hlen := fold_length (op := .sum) hl hlength
  rw [formOutput_sum hop, hrun, List.getD_eq_getElem _ _ (by rw [List.length_map, hlen]; exact hk), List.getElem_map,
    saturateSample_eq, ← List.getD_eq_getElem _ 0, fold_getD hk hl hlength]
  rw [← filledSlots_sum, ← fold_sum]
  rfl

theorem arrivals_zero_iff : arrivals a = 0 ↔ ∀ i : Slot, a.arrived[i] = none := by
  unfold arrivals
  rw [List.countP_eq_zero]
  constructor
  · intro h i
    have := h a.arrived[i] (by simp)
    simpa using this
  · intro h x hx
    obtain ⟨k, hk, rfl⟩ := List.mem_iff_getElem.mp hx
    have hk' : k < 8 := by simpa using hk
    have hx' : a.arrived.toList[k] = a.arrived[(⟨k, hk'⟩ : Slot)] := by simp
    rw [hx', h]
    nofun

theorem formOutput_extreme_at {w : Samples} {k : Nat} (hop : r.op = .max ∨ r.op = .min) (hw : a.result = .values w)
    (hlength : w.length = r.sampleCount) (hk : k < r.sampleCount)
    (hfills : ∀ i v, fillOf r a i = some v → v.length = r.sampleCount)
    (hsome : (∃ i : Slot, a.arrived[i] ≠ none) ∨ ∃ i v, fillOf r a i = some v) :
    (formOutput r a).getD k 0 =
      (filledSlots r a).foldl (fun z f => positionOp r.op z (f.2.getD k 0)) (w.getD k 0) := by
  have hnot : ¬ (arrivals a = 0 ∧ filledSlots r a = []) := by
    rintro ⟨hnone, hempty⟩
    rcases hsome with ⟨i, hi⟩ | ⟨i, v, hi⟩
    · exact hi (arrivals_zero_iff.mp hnone i)
    · exact absurd (mem_filledSlots.mpr hi) (by rw [hempty]; exact List.not_mem_nil)
  have hrun : runningValues r a.result = w := by rw [hw]; rfl
  rw [formOutput_extreme hop, if_neg hnot, hrun, fold_getD hk (filled_lengths hfills) hlength]

end

/-- Settles O38. -/
theorem formedOutputValues : Obligations.FormedOutputValues := by
  intro r a fillOf' parts inRange
  refine ⟨formOutput_length, formOutput_inRange, fun w k hop hw hlength hk hfills => ?_,
    fun w k hop hw hlength hk hfills hsome => ?_, fun harrived hfills hop => ?_, fun i v hop hlead => ⟨fun hbelow => ?_,
    fun j u hji hj hbelow => ?_⟩, fun hop hlead => ⟨fun hfills => ?_, fun j u hj hbelow => ?_⟩⟩
  · exact formOutput_sum_at hop hw hlength hk hfills
  · have hat := formOutput_extreme_at hop hw hlength hk hfills hsome
    have hfill : ∀ x ∈ filledSlots r a, ∃ i v, fillOf' i = some v ∧ x.2.getD k 0 = v.getD k 0 :=
      fun ⟨i, v⟩ hx => ⟨i, v, mem_filledSlots.mp hx, rfl⟩
    intro y
    rcases hop with hop | hop
    · rw [hop] at hat
      obtain ⟨hfrom, hge, hall⟩ := fold_max (l := filledSlots r a) (fun f => f.2.getD k 0) (w.getD k 0)
      refine ⟨?_, fun _ => ⟨hge.trans_eq hat.symm, fun i v hi => ?_⟩, fun h => (nomatch hop.symm.trans h)⟩
      · refine hfrom.imp hat.trans (fun ⟨x, hx, e⟩ => ?_)
        obtain ⟨i, v, hi, hv⟩ := hfill x hx
        exact ⟨i, v, hi, hat.trans (e.trans hv)⟩
      · exact (hall (i, v) (mem_filledSlots.mpr hi)).trans_eq hat.symm
    · rw [hop] at hat
      obtain ⟨hfrom, hle, hall⟩ := fold_min (l := filledSlots r a) (fun f => f.2.getD k 0) (w.getD k 0)
      refine ⟨?_, fun h => (nomatch hop.symm.trans h),
        fun _ => ⟨hat.trans_le hle, fun i v hi => ?_⟩⟩
      · refine hfrom.imp hat.trans (fun ⟨x, hx, e⟩ => ?_)
        obtain ⟨i, v, hi, hv⟩ := hfill x hx
        exact ⟨i, v, hi, hat.trans (e.trans hv)⟩
      · exact hat.trans_le (hall (i, v) (mem_filledSlots.mpr hi))
  · rw [formOutput_extreme hop, if_pos ⟨arrivals_zero_iff.mpr harrived, filledSlots_nil hfills⟩]
  · have hlow : (filledSlots r a).foldl lowerSlot (some (i, v)) = some (i, v) := by
      refine lowest_stays (fun ⟨j, u⟩ hx hji => ?_)
      exact nomatch (hbelow j hji).symm.trans (mem_filledSlots.mp hx)
    rw [formOutput_priority hop, hlead]
    exact congrArg (fun o : Option (Slot × Samples) => (o.map (·.2)).getD (List.replicate r.sampleCount 0)) hlow
  · obtain ⟨rest, hfilled, habove⟩ := filledSlots_cons hj hbelow
    have hlow : ((i, v) :: filledSlots r a).foldl lowerSlot none = some (j, u) := by
      have hstep : lowerSlot (some (i, v)) (j, u) = some (j, u) := if_pos hji
      rw [hfilled, List.foldl_cons, List.foldl_cons]
      exact (congrArg (fun o => rest.foldl lowerSlot o) hstep).trans (lowest_stays (fun x hx => lt_asymm (habove x hx)))
    rw [formOutput_priority hop, hlead]
    exact congrArg (fun o : Option (Slot × Samples) => (o.map (·.2)).getD (List.replicate r.sampleCount 0)) hlow
  · rw [formOutput_priority hop, hlead, filledSlots_nil hfills]
    rfl
  · obtain ⟨rest, hfilled, habove⟩ := filledSlots_cons hj hbelow
    have hlow : (filledSlots r a).foldl lowerSlot none = some (j, u) := by
      rw [hfilled, List.foldl_cons]
      exact lowest_stays (fun x hx => lt_asymm (habove x hx))
    rw [formOutput_priority hop, hlead]
    exact congrArg (fun o : Option (Slot × Samples) => (o.map (·.2)).getD (List.replicate r.sampleCount 0)) hlow

end Sys2Proof.Machine
end

section
/-!
Bytes in their places: a run of bytes at a position, numbers read back from it, and the cells that the part builds (R49,
R87, R98, R166, R189 to R192, R196).
-/

namespace Sys2Proof.Machine

/-! ### A run of bytes at a position -/

/-- The bytes `b k`, `b (k + 1)`, … are those of the list. -/
def HoldsAt (b : Nat → Byte) (k : Nat) (l : List Byte) : Prop := ∀ i, i < l.length → b (k + i) = l.getD i 0

section
variable {b : Nat → Byte} {k : Nat} {l m : List Byte} {x : Byte}

theorem holdsAt_self (l : List Byte) : HoldsAt (l.getD · 0) 0 l := fun i _ => by rw [Nat.zero_add]

theorem holdsAt_nil : HoldsAt b k [] ↔ True := iff_true_intro (fun i hi => absurd hi (Nat.not_lt_zero i))

theorem holdsAt_cons : HoldsAt b k (x :: l) ↔ b k = x ∧ HoldsAt b (k + 1) l := by
  constructor
  · refine fun h => ⟨h 0 (Nat.succ_pos _), fun i hi => ?_⟩
    rw [show k + 1 + i = k + (i + 1) by omega]
    exact h (i + 1) (Nat.succ_lt_succ hi)
  · rintro ⟨h0, h⟩ i hi
    cases i with
    | zero => exact h0
    | succ i =>
      rw [show k + (i + 1) = k + 1 + i by omega]
      exact h i (Nat.lt_of_succ_lt_succ hi)

theorem holdsAt_append : HoldsAt b k (l ++ m) ↔ HoldsAt b k l ∧ HoldsAt b (k + l.length) m := by
  induction l generalizing k with
  | nil => simp [holdsAt_nil]
  | cons x l ih =>
    rw [List.cons_append, holdsAt_cons, holdsAt_cons, ih, and_assoc, List.length_cons,
      show k + 1 + l.length = k + (l.length + 1) by omega]

theorem holdsAt_replicate {n : Nat} : HoldsAt b k (List.replicate n x) ↔ ∀ i, i < n → b (k + i) = x := by
  unfold HoldsAt
  rw [List.length_replicate]
  refine forall₂_congr (fun i hi => ?_)
  rw [List.getD_replicate _ hi]

theorem be16_length (x : Half) : (be16 x).length = 2 := rfl
theorem be32_length (x : BitVec 32) : (be32 x).length = 4 := rfl
theorem nat16_length (n : Nat) : (nat16 n).length = 2 := rfl

/-- A number of two bytes is in its place when it reads back (R189). -/
theorem holdsAt_be16 (y : Half) : HoldsAt b k (be16 y) ↔ (b k ++ b (k + 1) : Half) = y := by
  constructor
  · intro h
    have h0 : b k = (be16 y).getD 0 0 := h 0 (Nat.succ_pos _)
    have h1 : b (k + 1) = (be16 y).getD 1 0 := h 1 (Nat.lt_succ_self 1)
    rw [h0, h1, be16_join]
  · rintro rfl
    rw [be16, holdsAt_cons, holdsAt_cons, holdsAt_nil]
    refine ⟨BitVec.eq_of_getLsbD_eq (fun i hi => ?_), BitVec.eq_of_getLsbD_eq (fun i hi => ?_), trivial⟩
    · rw [BitVec.getLsbD_extractLsb', BitVec.getLsbD_append, if_neg (by omega), Nat.add_sub_cancel_left]
      simp [hi]
    · rw [BitVec.getLsbD_extractLsb', BitVec.getLsbD_append, if_pos (by omega), Nat.zero_add]
      simp [hi]

theorem be32_eq (y : BitVec 32) : be32 y = be16 (y.extractLsb' 16 16) ++ be16 (y.extractLsb' 0 16) := rfl

theorem holdsAt_be32 {y : BitVec 32} (h : HoldsAt b k (be32 y)) :
    ((b k ++ b (k + 1) : Half) ++ (b (k + 2) ++ b (k + 3) : Half) : BitVec 32) = y := by
  rw [be32_eq, holdsAt_append, holdsAt_be16, holdsAt_be16] at h
  obtain ⟨hhigh, hlow⟩ := h
  have hlow' : (b (k + 2) ++ b (k + 3) : Half) = y.extractLsb' 0 16 := hlow
  rw [hhigh, hlow', word_join]

theorem append_toNat (x y : Byte) : (x ++ y : Half).toNat = x.toNat * 256 + y.toNat := by
  rw [BitVec.toNat_append, ← Nat.shiftLeft_add_eq_or_of_lt y.isLt, Nat.shiftLeft_eq]

/-- A number below 2^16 reads back from its two bytes. -/
theorem holdsAt_nat16 {n : Nat} (hn : n < 65536) (h : HoldsAt b k (nat16 n)) : (b k ++ b (k + 1) : Half).toNat = n := by
  rw [(holdsAt_be16 _).mp h, BitVec.toNat_ofNat]
  exact Nat.mod_eq_of_lt hn

theorem nat8_toNat {n : Nat} (hn : n < 256) : (nat8 n).toNat = n := by
  rw [nat8, BitVec.toNat_ofNat]
  exact Nat.mod_eq_of_lt hn

end

/-! ### Cells that the part builds -/

section
variable {l : List Byte}

theorem buildCell_holds (h : l.length ≤ 60) : HoldsAt (cellByte (buildCell l)) 0 l := fun i hi => by
  rw [Nat.zero_add, cellByte_buildCell l (by omega)]

theorem buildCell_zeros {i : Nat} (h : l.length ≤ i) (hi : i ≤ 59) : cellByte (buildCell l) i = 0 := by
  rw [cellByte_buildCell l (by omega), List.getD_eq_default _ _ h]

theorem header_length (kind flags : Byte) (id : Nat) (sequence n : Byte) (period : Half) :
    (header kind flags id sequence n period).length = 12 := rfl

/-- A cell built from a header and a payload: the header's fields, the payload from byte 12, zeros after it. -/
theorem buildCell_originated {kind flags sequence : Byte} {id : StreamId} {n : Nat} (hn : n < 256) {period : Half}
    (hl : l.length ≤ 48) : let c := buildCell (header kind flags id.val sequence (nat8 n) period ++ l)
    Originated c kind flags id sequence n period ∧ HoldsAt (cellByte c) 12 l ∧
    ∀ i, 12 + l.length ≤ i → i ≤ 59 → cellByte c i = 0 := by
  intro c
  have hlength : (header kind flags id.val sequence (nat8 n) period ++ l).length = 12 + l.length := by
    rw [List.length_append, header_length]
  have hbytes := buildCell_holds (l := header kind flags id.val sequence (nat8 n) period ++ l) (by omega)
  rw [holdsAt_append, header_length] at hbytes
  obtain ⟨hheader, hpayload⟩ := hbytes
  simp only [header, holdsAt_append, holdsAt_cons, holdsAt_nil, List.length_append, List.length_cons, List.length_nil,
    nat16_length, be16_length, Nat.reduceAdd, and_true] at hheader
  obtain ⟨⟨⟨⟨⟨hkind, hflags⟩, hid⟩, hsequence, hcount⟩, hperiod⟩, h8, h9, h10, h11⟩ := hheader
  refine ⟨⟨hkind, hflags, holdsAt_nat16 (by omega) hid, hsequence, ?_, (holdsAt_be16 _).mp hperiod, fun i hlow hhigh => ?_,
    checkGood_buildCell _⟩, hpayload, fun i hi hi' => buildCell_zeros (by omega) hi'⟩
  · exact (congrArg BitVec.toNat hcount).trans (nat8_toNat hn)
  · interval_cases i
    · exact h8
    · exact h9
    · exact h10
    · exact h11

end

end Sys2Proof.Machine
end

section
/-!
The cells of the part, byte by byte (R49, R87, R98, R166, R190 to R192, R196).
-/

namespace Sys2Proof.Machine

/-! ### Samples (R191) -/

theorem sample_join (y : BitVec 24) :
    (((y.extractLsb' 16 8 ++ y.extractLsb' 8 8 : Half) ++ y.extractLsb' 0 8 : BitVec 24)) = y := by
  refine BitVec.eq_of_getLsbD_eq (fun i hi => ?_)
  rw [BitVec.getLsbD_append, BitVec.getLsbD_append, BitVec.getLsbD_extractLsb', BitVec.getLsbD_extractLsb',
    BitVec.getLsbD_extractLsb']
  by_cases h8 : i < 8
  · simp [h8]
  · by_cases h16 : i < 16
    · simp [h8, show i - 8 < 8 by omega, show 8 + (i - 8) = i by omega]
    · simp [h8, show ¬ i - 8 < 8 by omega, show i - 8 - 8 < 8 by omega, show 16 + (i - 8 - 8) = i by omega]

theorem sample_range {x : Int} (h : -8388608 ≤ x ∧ x ≤ 8388607) : (BitVec.ofInt 24 x).toInt = x := by
  rw [BitVec.toInt_ofInt]
  exact Int.bmod_eq_of_le (by omega) (by omega)

theorem sampleBytes_length (x : Int) : (sampleBytes x).length = 3 := rfl

theorem holdsAt_sample {b : Nat → Byte} {k : Nat} {x : Int} (hx : -8388608 ≤ x ∧ x ≤ 8388607)
    (h : HoldsAt b k (sampleBytes x)) : (((b k ++ b (k + 1) : Half) ++ b (k + 2) : BitVec 24)).toInt = x := by
  simp only [sampleBytes, holdsAt_cons] at h
  obtain ⟨h0, h1, h2, -⟩ := h
  have h2' : b (k + 2) = (BitVec.ofInt 24 x).extractLsb' 0 8 := h2
  rw [h0, h1, h2', sample_join, sample_range hx]

theorem samples_length (v : Samples) : (v.flatMap sampleBytes).length = 3 * v.length := by
  induction v with
  | nil => rfl
  | cons x v ih =>
    rw [List.flatMap_cons, List.length_append, ih, sampleBytes_length, List.length_cons]
    omega

theorem holdsAt_samples {b : Nat → Byte} {k : Nat} {v : Samples} (h : HoldsAt b k (v.flatMap sampleBytes)) {i : Nat}
    (hi : i < v.length) : HoldsAt b (k + 3 * i) (sampleBytes v[i]) := by
  induction v generalizing k i with
  | nil => exact absurd hi (Nat.not_lt_zero i)
  | cons x v ih =>
    rw [List.flatMap_cons, holdsAt_append, sampleBytes_length] at h
    cases i with
    | zero => exact h.1
    | succ i =>
      have hrest := ih h.2 (Nat.lt_of_succ_lt_succ hi)
      rwa [show k + 3 + 3 * i = k + 3 * (i + 1) by omega] at hrest

theorem outputCell_layout (flags : Byte) (id : StreamId) (sequence : Byte) {n : Nat} (period : Half) {v : Samples}
    (hn : v.length = n) (hmax : n ≤ 16) (hrange : ∀ x ∈ v, -8388608 ≤ x ∧ x ≤ 8388607) :
    let c := outputCell flags id sequence n period v
    Originated c 1 flags id sequence n period ∧ cellSamples c n = v ∧
    ∀ i, 12 + 3 * n ≤ i → i ≤ 59 → cellByte c i = 0 := by
  intro c
  have hlength : (v.flatMap sampleBytes).length = 3 * n := by rw [samples_length, hn]
  obtain ⟨horiginated, hpayload, hzeros⟩ := buildCell_originated (kind := 1) (flags := flags) (sequence := sequence)
    (id := id) (n := n) (by omega) (period := period) (l := v.flatMap sampleBytes) (by omega)
  rw [hlength] at hzeros
  refine ⟨horiginated, List.ext_getElem (by simp [cellSamples, hn]) (fun i hi hi' => ?_), hzeros⟩
  simp only [cellSamples, List.getElem_map, List.getElem_range]
  have hsample := holdsAt_sample (hrange _ (List.getElem_mem hi')) (holdsAt_samples hpayload hi')
  have hlast : 14 + 3 * i = 12 + 3 * i + 2 := by omega
  unfold cellSample
  rw [hlast]
  exact hsample

/-! ### SYNC, response, notice -/

theorem syncCell_layout (id : StreamId) (period : Half) :
    Originated (syncCell id period) 2 0 id 0 0 period ∧ ∀ i, 12 ≤ i → i ≤ 59 → cellByte (syncCell id period) i = 0 := by
  obtain ⟨horiginated, -, hzeros⟩ := buildCell_originated (kind := 2) (flags := 0) (sequence := 0) (id := id) (n := 0)
    (by omega) (period := period) (l := []) (by decide)
  rw [List.append_nil] at horiginated hzeros
  exact ⟨horiginated, hzeros⟩

theorem fitBytes_of_le {n : Nat} {l : List Byte} (h : l.length ≤ n) :
    fitBytes n l = l ++ List.replicate (n - l.length) 0 := by
  rw [fitBytes, List.take_append, List.take_of_length_le h, List.take_replicate, Nat.min_eq_left (by omega)]

theorem status_mem (s : Status) : (s, (statusCode s).toNat) ∈ [(Status.ok, 0), (.badRequest, 1), (.badField, 2),
    (.badIndex, 3), (.badSet, 4), (.notOwner, 5), (.claimed, 6), (.shadowArmed, 7), (.shadowBusy, 8), (.alreadyArmed, 9),
    (.notArmed, 10), (.checkFailed, 11)] := by
  cases s <;> decide

/-- A response cell: its fields, its data from byte 18, zeros after the data. -/
theorem responseCell_layout (x : Response) (h : x.data.length ≤ 42) : let c := responseCell x
    Originated c 4 0 x.replyId 0 0 x.period ∧ cellHalf c 12 = x.controllerTag ∧ cellHalf c 14 = x.transactionTag ∧
    cellByte c 16 = x.code ∧ cellByte c 17 = statusCode x.status ∧ HoldsAt (cellByte c) 18 x.data ∧
    ∀ i, 18 + x.data.length ≤ i → i ≤ 59 → cellByte c i = 0 := by
  intro c
  have hlength : (be16 x.controllerTag ++ be16 x.transactionTag ++ [x.code, statusCode x.status] ++ fitBytes 42 x.data).length
      = 48 := by
    rw [List.length_append, fitBytes_length]
    rfl
  obtain ⟨horiginated, hpayload, -⟩ := buildCell_originated (kind := 4) (flags := 0) (sequence := 0) (id := x.replyId)
    (n := 0) (by omega) (period := x.period)
    (l := be16 x.controllerTag ++ be16 x.transactionTag ++ [x.code, statusCode x.status] ++ fitBytes 42 x.data)
    (by omega)
  have hcell : buildCell (header 4 0 x.replyId.val 0 (nat8 0) x.period ++
      (be16 x.controllerTag ++ be16 x.transactionTag ++ [x.code, statusCode x.status] ++ fitBytes 42 x.data)) = c := by
    simp only [c, responseCell, List.append_assoc]
    rfl
  rw [hcell] at horiginated hpayload
  simp only [holdsAt_append, holdsAt_cons, holdsAt_nil, holdsAt_be16, List.length_append, List.length_cons,
    List.length_nil, be16_length, Nat.reduceAdd, and_true, fitBytes_of_le h, holdsAt_replicate] at hpayload
  obtain ⟨⟨⟨htag, htransaction⟩, hcode, hstatus⟩, hdata, hzeros⟩ := hpayload
  refine ⟨horiginated, htag, htransaction, hcode, hstatus, hdata, fun i hi hi' => ?_⟩
  have := hzeros (i - (18 + x.data.length)) (by omega)
  rwa [show 18 + x.data.length + (i - (18 + x.data.length)) = i by omega] at this

theorem payload_mem (p : NoticePayload) : (p, (payloadCode p).toNat) ∈ [(NoticePayload.nothing, 0), (.timing .free, 0),
    (.timing .acquire, 1), (.timing .locked, 2), (.timing .holdover, 3), (.link false, 0), (.link true, 1)] := by
  match p with
  | .nothing => decide
  | .timing t => cases t <;> decide
  | .link up => cases up <;> decide

/-- A notice cell: its fields and zeros after them. -/
theorem noticeCell_layout (x : NoticeCopy) (h : x.notice.repeats ≤ 255) : let c := noticeCell x
    Originated c 5 0 x.streamId 0 0 x.period ∧ cellHalf c 12 = x.notice.number ∧
    cellByte c 14 = (topicFields x.notice.topic).1 ∧ (cellByte c 15).toNat = x.notice.repeats ∧
    cellHalf c 16 = (topicFields x.notice.topic).2 ∧ cellByte c 18 = payloadCode x.notice.payload ∧
    cellByte c 19 = boolByte x.overflow ∧ ∀ i, 20 ≤ i → i ≤ 59 → cellByte c i = 0 := by
  intro c
  obtain ⟨horiginated, hpayload, hzeros⟩ := buildCell_originated (kind := 5) (flags := 0) (sequence := 0)
    (id := x.streamId) (n := 0) (by omega) (period := x.period)
    (l := be16 x.notice.number ++ [(topicFields x.notice.topic).1, nat8 x.notice.repeats] ++
      be16 (topicFields x.notice.topic).2 ++ [payloadCode x.notice.payload, boolByte x.overflow]) (Nat.le_add_right 8 40)
  have hcell : buildCell (header 5 0 x.streamId.val 0 (nat8 0) x.period ++
      (be16 x.notice.number ++ [(topicFields x.notice.topic).1, nat8 x.notice.repeats] ++
        be16 (topicFields x.notice.topic).2 ++ [payloadCode x.notice.payload, boolByte x.overflow])) = c := by
    simp only [c, noticeCell, List.append_assoc]
    rfl
  rw [hcell] at horiginated hpayload hzeros
  simp only [holdsAt_append, holdsAt_cons, holdsAt_nil, holdsAt_be16, List.length_append, List.length_cons,
    List.length_nil, be16_length, Nat.reduceAdd, and_true] at hpayload
  obtain ⟨⟨⟨hnumber, hkind, hrepeats⟩, hsubject⟩, hpay, hover⟩ := hpayload
  exact ⟨horiginated, hnumber, hkind, (congrArg BitVec.toNat hrepeats).trans (nat8_toNat (by omega)), hsubject, hpay,
    hover, hzeros⟩

/-! ### The renamed copy (R87) -/

theorem cell_length (x : Cell) : x.toList.length = 64 := by simp

/-- Byte `i` of a renamed copy, by its place. -/
theorem cellByte_renameCell (x : Cell) (id : StreamId) {i : Nat} (hi : i < 60) : cellByte (renameCell x id) i =
    if i = 3 then nat8 id.val else if i = 2 then (cellByte x 2 &&& 0xF0#8) ||| BitVec.ofNat 8 (id.val / 256)
    else cellByte x i := by
  have hlength := cell_length x
  rw [renameCell, cellByte_buildCell _ hi, List.getD_eq_getElem _ _ (by simp [hlength, hi]), List.getElem_set,
    List.getElem_set, List.getElem_take]
  by_cases h3 : i = 3
  · rw [if_pos h3.symm, if_pos h3]
  · rw [if_neg (Ne.symm h3), if_neg h3]
    by_cases h2 : i = 2
    · rw [if_pos h2.symm, if_pos h2]
    · rw [if_neg (Ne.symm h2), if_neg h2]
      exact (List.getD_eq_getElem _ _ (by omega)).symm

/-- The high four bits of a byte stay under a number below 16 in its low four bits. -/
theorem highBits_kept (b : Byte) {n : Nat} (hn : n < 16) : ((b &&& 0xF0#8) ||| BitVec.ofNat 8 n) >>> 4 = b >>> 4 := by
  refine BitVec.eq_of_getLsbD_eq (fun i hi => ?_)
  have hlow : n.testBit (4 + i) = false :=
    Nat.testBit_lt_two_pow (lt_of_lt_of_le hn (Nat.pow_le_pow_right (by omega) (Nat.le_add_right 4 i) : 2 ^ 4 ≤ _))
  have hmask : i < 4 → (0xF0#8).getLsbD (4 + i) = true := by
    intro h
    interval_cases i <;> rfl
  rw [BitVec.getLsbD_ushiftRight, BitVec.getLsbD_ushiftRight, BitVec.getLsbD_or, BitVec.getLsbD_and,
    BitVec.getLsbD_ofNat (x := n), hlow, Bool.and_false, Bool.or_false]
  by_cases h : i < 4
  · rw [hmask h, Bool.and_true]
  · rw [BitVec.getLsbD_of_ge b (4 + i) (by omega), Bool.false_and]

theorem lowBits_set (b : Byte) {n : Nat} (hn : n < 16) : ((b &&& 0xF0#8) ||| BitVec.ofNat 8 n).toNat % 16 = n := by
  rw [BitVec.toNat_or, BitVec.toNat_and, BitVec.toNat_ofNat (x := n), Nat.or_mod_two_pow (n := 4), Nat.and_mod_two_pow (n := 4)]
  have hmask : (0xF0#8).toNat % 2 ^ 4 = 0 := rfl
  rw [hmask, Nat.and_zero, Nat.zero_or]
  omega

theorem renameCell_layout (x : Cell) (id : StreamId) : let c := renameCell x id
    (∀ i, i ≤ 59 → i ≠ 2 → i ≠ 3 → cellByte c i = cellByte x i) ∧ cellByte c 2 >>> 4 = cellByte x 2 >>> 4 ∧
    (cellStreamId c).toNat = id.val ∧ checkGood c = true := by
  intro c
  have hid := id.isLt
  have h2 : cellByte c 2 = (cellByte x 2 &&& 0xF0#8) ||| BitVec.ofNat 8 (id.val / 256) := cellByte_renameCell x id (by omega)
  have h3 : cellByte c 3 = nat8 id.val := cellByte_renameCell x id (by omega)
  refine ⟨fun i hi hi2 hi3 => ?_, ?_, ?_, checkGood_buildCell _⟩
  · exact (cellByte_renameCell x id (by omega)).trans ((if_neg hi3).trans (if_neg hi2))
  · rw [h2]
    exact highBits_kept _ (by omega)
  · have hlow := lowBits_set (cellByte x 2) (n := id.val / 256) (by omega)
    rw [cellStreamId, BitVec.toNat_setWidth, cellHalf, append_toNat, h2, h3, nat8, BitVec.toNat_ofNat]
    omega

/-- Settles O36. -/
theorem outputCellLayout : Obligations.OutputCellLayout := by
  refine ⟨fun flags id sequence n period v hlength hn hrange => outputCell_layout flags id sequence period hlength hn hrange,
    syncCell_layout, fun x hx => ?_, fun x hx => ?_, renameCell_layout⟩
  · obtain ⟨horiginated, htag, htransaction, hcode, hstatus, hdata, hzeros⟩ := responseCell_layout x hx
    refine ⟨horiginated, htag, htransaction, hcode, by rw [hstatus]; exact status_mem x.status, fun i hi => ?_⟩
    by_cases h : i < x.data.length
    · exact hdata i h
    · rw [hzeros (18 + i) (by omega) (by omega), List.getD_eq_default _ _ (by omega)]
  · obtain ⟨horiginated, hnumber, hkind, hrepeats, hsubject, hpayload, hover, hzeros⟩ := noticeCell_layout x hx
    refine ⟨horiginated, hnumber, hrepeats, ?_, by rw [hpayload]; exact payload_mem _, hover, hzeros⟩
    have small : ∀ {m : Nat}, m < 65536 → (BitVec.ofNat 16 m).toNat = m := fun hm => by
      rw [BitVec.toNat_ofNat]
      exact Nat.mod_eq_of_lt hm
    cases htopic : x.notice.topic with
    | groupLost g =>
      rw [htopic] at hkind hsubject
      exact ⟨hkind, (congrArg BitVec.toNat hsubject).trans (small (by omega))⟩
    | groupShort g =>
      rw [htopic] at hkind hsubject
      exact ⟨hkind, (congrArg BitVec.toNat hsubject).trans (small (by omega))⟩
    | link p =>
      rw [htopic] at hkind hsubject
      exact ⟨hkind, (congrArg BitVec.toNat hsubject).trans (small (by omega))⟩
    | _ =>
      rw [htopic] at hkind hsubject
      exact ⟨hkind, congrArg BitVec.toNat hsubject⟩

end Sys2Proof.Machine
end

section
/-!
Record bytes as a write decodes them (R114 to R117, R193): the rows of the refusals, and the record that the bytes hold
where none of them applies.
-/

namespace Sys2Proof.Machine

/-! ### Destination sets -/

theorem byte3_toNat {x : Byte} (h : x.toNat < 8) : (byte3 x).toNat = x.toNat := by
  rw [byte3, BitVec.toNat_setWidth]
  exact Nat.mod_eq_of_lt h

theorem byte3_common {x y : Byte} (hx : x.toNat < 8) : byte3 x &&& byte3 y = 0 ↔ x &&& y = 0 := by
  have hle : (x &&& y).toNat < 8 := by
    rw [BitVec.toNat_and]
    exact lt_of_le_of_lt Nat.and_le_left hx
  have hand : byte3 x &&& byte3 y = byte3 (x &&& y) := (BitVec.setWidth_and).symm
  rw [hand, ← BitVec.toNat_inj, ← BitVec.toNat_inj, byte3_toNat hle]
  rfl

/-! ### Stream records -/

section
variable (b : Nat → Byte)

/-- A field of a stream record is out of its range (R115, row 4 of R114). -/
def StreamOutOfRange : Prop :=
  4 ≤ (b 0).toNat ∨
  ((b 1).getLsbD 2 = true ∧ 1024 ≤ (b 2 ++ b 3 : Half).toNat) ∨ ((b 1).getLsbD 3 = true ∧ 8 ≤ (b 4).toNat) ∨
  (((b 0).toNat = 1 ∨ (b 0).toNat = 3) ∧ (8 ≤ (b 5).toNat ∨ 8 ≤ (b 6).toNat)) ∨
  (((b 0).toNat = 2 ∨ (b 0).toNat = 3) ∧ (64 ≤ (b 7).toNat ∨ 8 ≤ (b 8).toNat ∨ 8 ≤ (b 9).toNat))

/-- The destination set of a stream record has a common bit (row 5 of R114). -/
def StreamCommon : Prop := ((b 0).toNat = 1 ∨ (b 0).toNat = 3) ∧ b 5 &&& b 6 ≠ 0

end

/-- The bytes at `k` of a cell. -/
def bytesAt (c : Cell) (k : Nat) (i : Nat) : Byte := cellByte c (k + i)

section
variable {c : Cell} {k : Nat}

/-- The range check of a stream record's bytes, as the decoder writes it. -/
theorem streamInRange_iff (b : Nat → Byte) :
    (decide ((b 0).toNat ≤ 3)
      && (!flagBit (b 1) 2 || decide (half (b 2) (b 3) < 1024))
      && (!flagBit (b 1) 3 || decide ((b 4).toNat < 8))
      && (!((b 0).toNat == 1 || (b 0).toNat == 3) || (decide ((b 5).toNat < 8) && decide ((b 6).toNat < 8)))
      && (!((b 0).toNat == 2 || (b 0).toNat == 3) ||
        (decide ((b 7).toNat < 64) && decide ((b 8).toNat < 8) && decide ((b 9).toNat < 8)))) = true ↔
    ¬ StreamOutOfRange b := by
  have h4 : (b 0).toNat ≤ 3 ↔ (b 0).toNat < 4 := by omega
  simp only [StreamOutOfRange, flagBit, Bool.and_eq_true, Bool.or_eq_true, Bool.not_eq_true', decide_eq_true_eq,
    Bool.or_eq_false_iff, beq_eq_false_iff_ne, ne_eq, not_or, not_and_or, not_le, Bool.not_eq_true, h4, and_assoc]
  rfl

theorem decodeStreamRec_badField (h : StreamOutOfRange (bytesAt c k)) : decodeStreamRec c k = .error .badField := by
  unfold decodeStreamRec
  dsimp only
  rw [if_pos]
  rw [Bool.not_eq_true', ← Bool.not_eq_true]
  exact fun hin => (streamInRange_iff (bytesAt c k)).mp hin h

/-- The action that the bytes of a stream record name. -/
def actionOf (b : Nat → Byte) : Action :=
  let code := (b 0).toNat
  let dest : Dest := ⟨byte3 (b 5), byte3 (b 6)⟩
  let feed : Feed := ⟨Fin.ofNat 64 (b 7).toNat, Fin.ofNat 8 (b 8).toNat, Fin.ofNat 8 (b 9).toNat⟩
  if ((code == 1 || code == 3) && (code == 2 || code == 3)) = true then .both dest feed
  else if (code == 1 || code == 3) = true then .forward dest
  else if (code == 2 || code == 3) = true then .contribute feed else .drop

/-- What the bytes of a stream record in their ranges decode to. -/
theorem decodeStreamRec_inRange (h : ¬ StreamOutOfRange (bytesAt c k)) : decodeStreamRec c k =
    if (((bytesAt c k 0).toNat == 1 || (bytesAt c k 0).toNat == 3) &&
      byte3 (bytesAt c k 5) &&& byte3 (bytesAt c k 6) != 0) = true then .error .badSet
    else .ok {
      action := actionOf (bytesAt c k)
      echo := if flagBit (bytesAt c k 1) 0 = true then .allow else .suppress
      rename := if flagBit (bytesAt c k 1) 2 = true then some (Fin.ofNat 1024 (half (bytesAt c k 2) (bytesAt c k 3))) else none
      guard := if flagBit (bytesAt c k 1) 3 = true then some (Fin.ofNat 8 (bytesAt c k 4).toNat) else none
      seqCheck := flagBit (bytesAt c k 1) 1 } := by
  unfold decodeStreamRec
  dsimp only
  rw [if_neg]
  · rfl
  · rw [Bool.not_eq_true', Bool.not_eq_false]
    exact (streamInRange_iff (bytesAt c k)).mpr h

theorem streamSet_iff (h : ¬ StreamOutOfRange (bytesAt c k)) :
    (((bytesAt c k 0).toNat == 1 || (bytesAt c k 0).toNat == 3) &&
      byte3 (bytesAt c k 5) &&& byte3 (bytesAt c k 6) != 0) = true ↔ StreamCommon (bytesAt c k) := by
  simp only [Bool.and_eq_true, Bool.or_eq_true, beq_iff_eq, bne_iff_ne, StreamCommon]
  refine and_congr_right (fun hforwards => not_congr (byte3_common ?_))
  by_contra h5
  exact h (.inr (.inr (.inr (.inl ⟨hforwards, .inl (by omega)⟩))))

theorem decodeStreamRec_badSet (h : ¬ StreamOutOfRange (bytesAt c k)) (hcommon : StreamCommon (bytesAt c k)) :
    decodeStreamRec c k = .error .badSet := by
  rw [decodeStreamRec_inRange h, if_pos ((streamSet_iff h).mpr hcommon)]

end

/-- The action of bytes in their ranges, code by code, with the fields that belong to it. -/
theorem actionOf_cases {b : Nat → Byte} (h : ¬ StreamOutOfRange b) :
    (b 0 = 0 ∧ actionOf b = .drop) ∨
    (∃ d, b 0 = 1 ∧ actionOf b = .forward d ∧ (d.legal ↔ b 5 &&& b 6 = 0) ∧
      (b 5).toNat = d.base.toNat ∧ (b 6).toNat = d.wild.toNat) ∨
    (∃ f, b 0 = 2 ∧ actionOf b = .contribute f ∧
      (b 7).toNat = f.group.val ∧ (b 8).toNat = f.slot.val ∧ (b 9).toNat = f.shift.val) ∨
    (∃ d f, b 0 = 3 ∧ actionOf b = .both d f ∧ (d.legal ↔ b 5 &&& b 6 = 0) ∧
      (b 5).toNat = d.base.toNat ∧ (b 6).toNat = d.wild.toNat ∧
      (b 7).toNat = f.group.val ∧ (b 8).toNat = f.slot.val ∧ (b 9).toNat = f.shift.val) := by
  unfold StreamOutOfRange at h
  have hcode : (b 0).toNat = 0 ∨ (b 0).toNat = 1 ∨ (b 0).toNat = 2 ∨ (b 0).toNat = 3 := by omega
  have dest : (b 0).toNat = 1 ∨ (b 0).toNat = 3 → (byte3 (b 5) &&& byte3 (b 6) = 0 ↔ b 5 &&& b 6 = 0) ∧
      (b 5).toNat = (byte3 (b 5)).toNat ∧ (b 6).toNat = (byte3 (b 6)).toNat := by
    intro hf
    have h5 : (b 5).toNat < 8 := by omega
    have h6 : (b 6).toNat < 8 := by omega
    exact ⟨byte3_common h5, (byte3_toNat h5).symm, (byte3_toNat h6).symm⟩
  have feed : (b 0).toNat = 2 ∨ (b 0).toNat = 3 → (b 7).toNat = (Fin.ofNat 64 (b 7).toNat).val ∧
      (b 8).toNat = (Fin.ofNat 8 (b 8).toNat).val ∧ (b 9).toNat = (Fin.ofNat 8 (b 9).toNat).val := by
    intro hf
    simp only [Fin.val_ofNat]
    omega
  rcases hcode with hcode | hcode | hcode | hcode
  · refine .inl ⟨BitVec.eq_of_toNat_eq hcode, ?_⟩
    simp [actionOf, hcode]
  · refine .inr (.inl ⟨⟨byte3 (b 5), byte3 (b 6)⟩, BitVec.eq_of_toNat_eq hcode, ?_, dest (.inl hcode)⟩)
    simp [actionOf, hcode]
  · refine .inr (.inr (.inl ⟨⟨Fin.ofNat 64 (b 7).toNat, Fin.ofNat 8 (b 8).toNat, Fin.ofNat 8 (b 9).toNat⟩, BitVec.eq_of_toNat_eq hcode, ?_, feed (.inl hcode)⟩))
    simp [actionOf, hcode]
  · obtain ⟨hlegal, hbase, hwild⟩ := dest (.inr hcode)
    refine .inr (.inr (.inr ⟨⟨byte3 (b 5), byte3 (b 6)⟩,
      ⟨Fin.ofNat 64 (b 7).toNat, Fin.ofNat 8 (b 8).toNat, Fin.ofNat 8 (b 9).toNat⟩, BitVec.eq_of_toNat_eq hcode, ?_,
      hlegal, hbase, hwild, feed (.inr hcode)⟩))
    simp [actionOf, hcode]

/-- A record with the action that its bytes name, and the other fields as its bytes give them. -/
theorem streamLayout_of {b : Nat → Byte} {x : StreamRec} (h : ¬ StreamOutOfRange b) (hcommon : ¬ StreamCommon b)
    (haction : x.action = actionOf b) (hecho : (b 1).getLsbD 0 = decide (x.echo = .allow))
    (hcheck : (b 1).getLsbD 1 = x.seqCheck) (hrename : (b 1).getLsbD 2 = x.rename.isSome)
    (hguard : (b 1).getLsbD 3 = x.guard.isSome) (hid : ∀ id, x.rename = some id → (b 2 ++ b 3 : Half).toNat = id.val)
    (hport : ∀ p, x.guard = some p → (b 4).toNat = p.val) : x.action.legal ∧ StreamLayout b x := by
  unfold StreamLayout StreamRec.forwardsTo StreamRec.feeds
  rw [haction]
  rcases actionOf_cases h with ⟨h0, hact⟩ | ⟨d, h0, hact, hlegal, hbase, hwild⟩ | ⟨f, h0, hact, hg, hs, hk⟩ |
    ⟨d, f, h0, hact, hlegal, hbase, hwild, hg, hs, hk⟩ <;> rw [hact]
  · refine ⟨trivial, fun _ => h0, nofun, nofun, nofun, hecho, hcheck, hrename, hguard, hid, hport, ?_, ?_⟩
    · rintro d (h | ⟨f, h⟩) <;> exact nomatch h
    · rintro d (h | ⟨f, h⟩) <;> exact nomatch h
  · have hzero : b 5 &&& b 6 = 0 := not_not.mp (fun hne => hcommon ⟨.inl (by rw [h0]; rfl), hne⟩)
    refine ⟨hlegal.mpr hzero, nofun, fun _ _ => h0, nofun, nofun, hecho, hcheck, hrename, hguard, hid, hport, ?_, ?_⟩
    · rintro d' (h | ⟨f, h⟩)
      · cases h
        exact ⟨hbase, hwild⟩
      · exact nomatch h
    · rintro d' (h | ⟨f, h⟩) <;> exact nomatch h
  · refine ⟨trivial, nofun, nofun, fun _ _ => h0, nofun, hecho, hcheck, hrename, hguard, hid, hport, ?_, ?_⟩
    · rintro d' (h | ⟨f, h⟩) <;> exact nomatch h
    · rintro f' (h | ⟨f, h⟩)
      · cases h
        exact ⟨hg, hs, hk⟩
      · exact nomatch h
  · have hzero : b 5 &&& b 6 = 0 := not_not.mp (fun hne => hcommon ⟨.inr (by rw [h0]; rfl), hne⟩)
    refine ⟨hlegal.mpr hzero, nofun, nofun, nofun, fun _ _ _ => h0, hecho, hcheck, hrename, hguard, hid, hport, ?_, ?_⟩
    · rintro d' (h | ⟨f, h⟩)
      · exact nomatch h
      · cases h
        exact ⟨hbase, hwild⟩
    · rintro f' (h | ⟨f, h⟩)
      · exact nomatch h
      · cases h
        exact ⟨hg, hs, hk⟩

theorem decide_ite {α : Type} [DecidableEq α] {b : Bool} {x y : α} (hne : y ≠ x) :
    b = decide ((if b = true then x else y) = x) := by
  cases b
  · exact (decide_eq_false hne).symm
  · exact (decide_eq_true rfl).symm

theorem isSome_ite {α : Type} {b : Bool} {x : α} : b = (if b = true then some x else none).isSome := by
  cases b <;> rfl

theorem decodeStreamRec_ok {c : Cell} {k : Nat} (h : ¬ StreamOutOfRange (bytesAt c k))
    (hcommon : ¬ StreamCommon (bytesAt c k)) :
    ∃ x, decodeStreamRec c k = .ok x ∧ x.action.legal ∧ StreamLayout (bytesAt c k) x := by
  rw [decodeStreamRec_inRange h, if_neg (fun hs => hcommon ((streamSet_iff h).mp hs))]
  refine ⟨_, rfl, ?_⟩
  generalize bytesAt c k = b at *
  unfold StreamOutOfRange at h
  refine streamLayout_of h hcommon rfl ?_ rfl ?_ ?_ (fun id hid => ?_) (fun p hp => ?_)
  · exact decide_ite (b := (b 1).getLsbD 0) nofun
  · exact isSome_ite (b := (b 1).getLsbD 2)
  · exact isSome_ite (b := (b 1).getLsbD 3)
  · obtain ⟨hflag, hval⟩ := Option.ite_none_right_eq_some.mp hid
    obtain rfl := Option.some.inj hval
    have hflag' : (b 1).getLsbD 2 = true := hflag
    have hlt : (b 2 ++ b 3 : Half).toNat < 1024 := by
      by_contra hbig
      exact h (.inr (.inl ⟨hflag', Nat.le_of_not_lt hbig⟩))
    rw [Fin.val_ofNat]
    exact (Nat.mod_eq_of_lt hlt).symm
  · obtain ⟨hflag, hval⟩ := Option.ite_none_right_eq_some.mp hp
    obtain rfl := Option.some.inj hval
    have hflag' : (b 1).getLsbD 3 = true := hflag
    have hlt : (b 4).toNat < 8 := by
      by_contra hbig
      exact h (.inr (.inr (.inl ⟨hflag', Nat.le_of_not_lt hbig⟩)))
    rw [Fin.val_ofNat]
    exact (Nat.mod_eq_of_lt hlt).symm

/-! ### The bytes determine the record -/

section
variable {b : Nat → Byte} {x y : StreamRec}

theorem streamInRange_of (hcode : (b 0).toNat < 4)
    (hid : (b 1).getLsbD 2 = true → (b 2 ++ b 3 : Half).toNat < 1024)
    (hport : (b 1).getLsbD 3 = true → (b 4).toNat < 8)
    (hdest : (b 0).toNat = 1 ∨ (b 0).toNat = 3 → (b 5).toNat < 8 ∧ (b 6).toNat < 8)
    (hfeed : (b 0).toNat = 2 ∨ (b 0).toNat = 3 → (b 7).toNat < 64 ∧ (b 8).toNat < 8 ∧ (b 9).toNat < 8) :
    ¬ StreamOutOfRange b := by
  rintro (h | ⟨hf, h⟩ | ⟨hf, h⟩ | ⟨hf, h⟩ | ⟨hf, h⟩)
  · omega
  · exact absurd (hid hf) (Nat.not_lt.mpr h)
  · exact absurd (hport hf) (Nat.not_lt.mpr h)
  · have := hdest hf
    omega
  · have := hfeed hf
    omega

/-- The bytes of a legal record are in range and share no bit. -/
theorem StreamLayout.inRange (h : StreamLayout b x) (hlegal : x.action.legal) :
    ¬ StreamOutOfRange b ∧ ¬ StreamCommon b := by
  obtain ⟨hdrop, hforward, hcontribute, hboth, -, -, hrename, hguard, hid, hport, hdest, hfeed⟩ := h
  have id : (b 1).getLsbD 2 = true → (b 2 ++ b 3 : Half).toNat < 1024 := by
    intro hflag
    rw [hrename] at hflag
    obtain ⟨v, hv⟩ := Option.isSome_iff_exists.mp hflag
    rw [hid v hv]
    exact v.isLt
  have port : (b 1).getLsbD 3 = true → (b 4).toNat < 8 := by
    intro hflag
    rw [hguard] at hflag
    obtain ⟨v, hv⟩ := Option.isSome_iff_exists.mp hflag
    rw [hport v hv]
    exact v.isLt
  have feed : ∀ f, x.feeds f → (b 7).toNat < 64 ∧ (b 8).toNat < 8 ∧ (b 9).toNat < 8 := by
    intro f hf
    obtain ⟨hg, hs, hk⟩ := hfeed f hf
    omega
  have dest : ∀ d : Dest, x.forwardsTo d → d.legal → (b 5).toNat < 8 ∧ (b 6).toNat < 8 ∧ b 5 &&& b 6 = 0 := by
    intro d hd hdlegal
    obtain ⟨hbase, hwild⟩ := hdest d hd
    have h5 : (b 5).toNat < 8 := hbase ▸ d.base.isLt
    have h6 : (b 6).toNat < 8 := hwild ▸ d.wild.isLt
    refine ⟨h5, h6, (byte3_common h5).mp ?_⟩
    rw [BitVec.eq_of_toNat_eq ((byte3_toNat h5).trans hbase), BitVec.eq_of_toNat_eq ((byte3_toNat h6).trans hwild)]
    exact hdlegal
  unfold StreamCommon
  cases hx : x.action with
  | drop =>
    have h0 : (b 0).toNat = 0 := congrArg BitVec.toNat (hdrop hx)
    exact ⟨streamInRange_of (by omega) id port (by omega) (by omega), by omega⟩
  | forward d =>
    have h0 : (b 0).toNat = 1 := congrArg BitVec.toNat (hforward d hx)
    obtain ⟨h5, h6, hcommon⟩ := dest d (.inl hx) (by rw [hx] at hlegal; exact hlegal)
    exact ⟨streamInRange_of (by omega) id port (fun _ => ⟨h5, h6⟩) (by omega), fun h => h.2 hcommon⟩
  | contribute f =>
    have h0 : (b 0).toNat = 2 := congrArg BitVec.toNat (hcontribute f hx)
    exact ⟨streamInRange_of (by omega) id port (by omega) (fun _ => feed f (.inl hx)), by omega⟩
  | both d f =>
    have h0 : (b 0).toNat = 3 := congrArg BitVec.toNat (hboth d f hx)
    obtain ⟨h5, h6, hcommon⟩ := dest d (.inr ⟨f, hx⟩) (by rw [hx] at hlegal; exact hlegal)
    exact ⟨streamInRange_of (by omega) id port (fun _ => ⟨h5, h6⟩) (fun _ => feed f (.inr ⟨d, hx⟩)), fun h => h.2 hcommon⟩

theorem Dest.ext_toNat {d e : Dest} (hbase : d.base.toNat = e.base.toNat) (hwild : d.wild.toNat = e.wild.toNat) : d = e :=
  (Dest.mk.injEq ..).mpr ⟨BitVec.eq_of_toNat_eq hbase, BitVec.eq_of_toNat_eq hwild⟩

theorem Feed.ext_val {f g : Feed} (hgroup : f.group.val = g.group.val) (hslot : f.slot.val = g.slot.val)
    (hshift : f.shift.val = g.shift.val) : f = g :=
  (Feed.mk.injEq ..).mpr ⟨Fin.ext hgroup, Fin.ext hslot, Fin.ext hshift⟩

/-- The code of the action that the bytes hold. -/
theorem StreamLayout.code (h : StreamLayout b x) : b 0 = actionCode x.action := by
  obtain ⟨hdrop, hforward, hcontribute, hboth, -⟩ := h
  cases hx : x.action with
  | drop => exact hdrop hx
  | forward d => exact hforward d hx
  | contribute f => exact hcontribute f hx
  | both d f => exact hboth d f hx

theorem StreamLayout.action_unique (hx : StreamLayout b x) (hy : StreamLayout b y) : x.action = y.action := by
  have hcode : actionCode x.action = actionCode y.action := hx.code.symm.trans hy.code
  obtain ⟨-, -, -, -, -, -, -, -, -, -, hdest, hfeed⟩ := hx
  obtain ⟨-, -, -, -, -, -, -, -, -, -, hdest', hfeed'⟩ := hy
  have dest : ∀ d e, x.forwardsTo d → y.forwardsTo e → d = e := fun d e hd he =>
    Dest.ext_toNat ((hdest d hd).1.symm.trans (hdest' e he).1) ((hdest d hd).2.symm.trans (hdest' e he).2)
  have feed : ∀ f g, x.feeds f → y.feeds g → f = g := by
    intro f g hf hg
    obtain ⟨h1, h2, h3⟩ := hfeed f hf
    obtain ⟨h1', h2', h3'⟩ := hfeed' g hg
    exact Feed.ext_val (h1.symm.trans h1') (h2.symm.trans h2') (h3.symm.trans h3')
  cases hxa : x.action with
  | drop =>
    cases hya : y.action with
    | drop => rfl
    | _ => rw [hxa, hya] at hcode; exact absurd hcode (by simp only [actionCode]; decide)
  | forward d =>
    cases hya : y.action with
    | forward e => rw [dest d e (.inl hxa) (.inl hya)]
    | _ => rw [hxa, hya] at hcode; exact absurd hcode (by simp only [actionCode]; decide)
  | contribute f =>
    cases hya : y.action with
    | contribute g => rw [feed f g (.inl hxa) (.inl hya)]
    | _ => rw [hxa, hya] at hcode; exact absurd hcode (by simp only [actionCode]; decide)
  | both d f =>
    cases hya : y.action with
    | both e g => rw [dest d e (.inr ⟨f, hxa⟩) (.inr ⟨g, hya⟩), feed f g (.inr ⟨d, hxa⟩) (.inr ⟨e, hya⟩)]
    | _ => rw [hxa, hya] at hcode; exact absurd hcode (by simp only [actionCode]; decide)

/-- Two optional numbers that their flag and their bytes agree on. -/
theorem option_eq_of_val {n v : Nat} {o p : Option (Fin n)} (hflag : o.isSome = p.isSome)
    (ho : ∀ i, o = some i → v = i.val) (hp : ∀ i, p = some i → v = i.val) : o = p := by
  cases o with
  | none =>
    cases p with
    | none => rfl
    | some j => exact nomatch hflag
  | some i =>
    cases p with
    | none => exact nomatch hflag
    | some j => exact congrArg some (Fin.ext ((ho i rfl).symm.trans (hp j rfl)))

/-- The bytes determine the record. -/
theorem StreamLayout.unique (hx : StreamLayout b x) (hy : StreamLayout b y) : x = y := by
  have haction := hx.action_unique hy
  obtain ⟨-, -, -, -, hecho, hcheck, hrename, hguard, hid, hport, -, -⟩ := hx
  obtain ⟨-, -, -, -, hecho', hcheck', hrename', hguard', hid', hport', -, -⟩ := hy
  refine (StreamRec.mk.injEq ..).mpr ⟨haction, ?_, option_eq_of_val (hrename.symm.trans hrename') hid hid',
    option_eq_of_val (hguard.symm.trans hguard') hport hport', hcheck.symm.trans hcheck'⟩
  have h : decide (x.echo = .allow) = decide (y.echo = .allow) := hecho.symm.trans hecho'
  cases hx : x.echo <;> cases hy : y.echo <;> first | rfl | (rw [hx, hy] at h; exact nomatch h)

end

/-- A write decodes the bytes of a legal record as that record. -/
theorem decodeStreamRec_of_layout {c : Cell} {k : Nat} {x : StreamRec} (hlegal : x.action.legal)
    (h : StreamLayout (bytesAt c k) x) : decodeStreamRec c k = .ok x := by
  obtain ⟨hrange, hcommon⟩ := h.inRange hlegal
  obtain ⟨y, hy, -, hlayout⟩ := decodeStreamRec_ok hrange hcommon
  rw [hy, h.unique hlayout]

end Sys2Proof.Machine
end

section
/-!
The bytes of group records and of the Part record as a write decodes them (R116, R117, R193).
-/

namespace Sys2Proof.Machine

/-! ### Group records -/

section
variable (b : Nat → Byte)

/-- A field of a group record is out of its range (R116, row 4 of R114). -/
def GroupOutOfRange : Prop :=
  4 ≤ (b 1).toNat ∨ 16383 ≤ (b 2 ++ b 3 : Half).toNat ∨ (b 4 ++ b 5 : Half).toNat = 0 ∨
  16384 ≤ (b 4 ++ b 5 : Half).toNat ∨ (b 6).toNat = 0 ∨ 9 ≤ (b 6).toNat ∨ (b 7).toNat = 0 ∨ 9 ≤ (b 7).toNat ∨
  (b 8).toNat = 0 ∨ 17 ≤ (b 8).toNat ∨ 1024 ≤ (b 9 ++ b 10 : Half).toNat ∨ 8 ≤ (b 11).toNat ∨ 8 ≤ (b 12).toNat

/-- The window of a group record does not end after it begins, or the quorum is above the contributors (row 6 of R114). -/
def GroupCrossed : Prop := (b 4 ++ b 5 : Half).toNat ≤ (b 2 ++ b 3 : Half).toNat ∨ (b 6).toNat < (b 7).toNat

/-- A field of the Part record is out of its range (R117, row 4 of R114). -/
def PartOutOfRange : Prop :=
  1024 ≤ (b 4 ++ b 5 : Half).toNat ∨ (b 6 ++ b 7 : Half).toNat < 64 ∨ 16384 ≤ (b 6 ++ b 7 : Half).toNat ∨
  16 ≤ (b 8).toNat ∨ 8 ≤ (b 9).toNat ∨ 64 ≤ (b 10).toNat ∨ 1024 ≤ (b 11 ++ b 12 : Half).toNat ∨
  (b 13 ++ b 14 : Half).toNat < 16 ∨ (b 15 ++ b 16 : Half).toNat = 0

end

section
variable {c : Cell} {k : Nat}

theorem groupInRange_iff (b : Nat → Byte) :
    (decide ((b 1).toNat ≤ 3) && decide (half (b 2) (b 3) ≤ 16382)
      && decide (1 ≤ half (b 4) (b 5)) && decide (half (b 4) (b 5) ≤ 16383)
      && decide (1 ≤ (b 6).toNat) && decide ((b 6).toNat ≤ 8) && decide (1 ≤ (b 7).toNat) && decide ((b 7).toNat ≤ 8)
      && decide (1 ≤ (b 8).toNat) && decide ((b 8).toNat ≤ 16) && decide (half (b 9) (b 10) < 1024)
      && decide ((b 11).toNat < 8) && decide ((b 12).toNat < 8)) = true ↔ ¬ GroupOutOfRange b := by
  simp only [Bool.and_eq_true, decide_eq_true_eq, GroupOutOfRange]
  unfold half
  omega

theorem decodeGroupRec_badField (h : GroupOutOfRange (bytesAt c k)) : decodeGroupRec c k = .error .badField := by
  unfold decodeGroupRec
  dsimp only
  rw [if_pos]
  rw [Bool.not_eq_true', ← Bool.not_eq_true]
  exact fun hin => (groupInRange_iff (bytesAt c k)).mp hin h

/-- What the bytes of a group record in their ranges decode to. -/
theorem decodeGroupRec_inRange (h : ¬ GroupOutOfRange (bytesAt c k)) : decodeGroupRec c k =
    let b := bytesAt c k
    if (byte3 (b 11) &&& byte3 (b 12) != 0) = true then .error .badSet
    else if (!(decide (half (b 2) (b 3) < half (b 4) (b 5)) && decide ((b 7).toNat ≤ (b 6).toNat))) = true then
      .error .badField
    else .ok
      { enabled := flagBit (b 0) 0
        mode := if flagBit (b 0) 1 = true then .oneShot else .continuous
        op := opOfCode (b 1).toNat
        openTick := half (b 2) (b 3)
        closeTick := half (b 4) (b 5)
        contributors := (b 6).toNat
        quorum := (b 7).toNat
        fill := if flagBit (b 0) 2 = true then .hold else .identity
        onShort := if flagBit (b 0) 3 = true then .mute else .suppress
        sampleCount := (b 8).toNat
        outStream := Fin.ofNat 1024 (half (b 9) (b 10))
        dest := ⟨byte3 (b 11), byte3 (b 12)⟩
        notifyShort := flagBit (b 0) 4 } := by
  unfold decodeGroupRec
  dsimp only
  rw [if_neg]
  · rfl
  · rw [Bool.not_eq_true', Bool.not_eq_false]
    exact (groupInRange_iff (bytesAt c k)).mpr h

theorem groupSet_iff {b : Nat → Byte} (h : ¬ GroupOutOfRange b) :
    (byte3 (b 11) &&& byte3 (b 12) != 0) = true ↔ b 11 &&& b 12 ≠ 0 := by
  rw [bne_iff_ne]
  unfold GroupOutOfRange at h
  exact not_congr (byte3_common (by omega))

theorem groupCrossed_iff (b : Nat → Byte) :
    (!(decide (half (b 2) (b 3) < half (b 4) (b 5)) && decide ((b 7).toNat ≤ (b 6).toNat))) = true ↔ GroupCrossed b := by
  rw [Bool.not_eq_true', ← Bool.not_eq_true, Bool.and_eq_true, decide_eq_true_eq, decide_eq_true_eq, GroupCrossed]
  unfold half
  omega

theorem decodeGroupRec_badSet (h : ¬ GroupOutOfRange (bytesAt c k))
    (hcommon : bytesAt c k 11 &&& bytesAt c k 12 ≠ 0) : decodeGroupRec c k = .error .badSet := by
  rw [decodeGroupRec_inRange h]
  exact if_pos ((groupSet_iff h).mpr hcommon)

theorem decodeGroupRec_crossed (h : ¬ GroupOutOfRange (bytesAt c k))
    (hcommon : ¬ bytesAt c k 11 &&& bytesAt c k 12 ≠ 0) (hcrossed : GroupCrossed (bytesAt c k)) :
    decodeGroupRec c k = .error .badField := by
  rw [decodeGroupRec_inRange h]
  exact (if_neg (fun hs => hcommon ((groupSet_iff h).mp hs))).trans (if_pos ((groupCrossed_iff _).mpr hcrossed))

theorem op_mem {n : Nat} (h : n ≤ 3) :
    (opOfCode n, n) ∈ [(CombineOp.sum, 0), (.max, 1), (.min, 2), (.priority, 3)] := by
  interval_cases n <;> decide

theorem decodeGroupRec_ok (h : ¬ GroupOutOfRange (bytesAt c k)) (hcommon : ¬ bytesAt c k 11 &&& bytesAt c k 12 ≠ 0)
    (hcrossed : ¬ GroupCrossed (bytesAt c k)) :
    ∃ x, decodeGroupRec c k = .ok x ∧ x.legal ∧ GroupLayout (bytesAt c k) x := by
  have hok := decodeGroupRec_inRange h
  dsimp only at hok
  rw [if_neg (fun hs => hcommon ((groupSet_iff h).mp hs)), if_neg (fun hs => hcrossed ((groupCrossed_iff _).mp hs))] at hok
  refine ⟨_, hok, decodeGroupRec_legal hok, ?_⟩
  generalize bytesAt c k = b at *
  unfold GroupOutOfRange at h
  refine ⟨rfl, decide_ite nofun, decide_ite nofun, decide_ite nofun, rfl, op_mem (by omega), rfl, rfl, rfl, rfl, rfl, ?_,
    (byte3_toNat (by omega)).symm, (byte3_toNat (by omega)).symm⟩
  have hid : (b 9 ++ b 10 : Half).toNat < 1024 := by omega
  exact (Nat.mod_eq_of_lt hid).symm

end

section
variable {b : Nat → Byte} {x y : GroupRec}

theorem op_unique {o p : CombineOp} {n : Nat} (ho : (o, n) ∈ [(CombineOp.sum, 0), (.max, 1), (.min, 2), (.priority, 3)])
    (hp : (p, n) ∈ [(CombineOp.sum, 0), (.max, 1), (.min, 2), (.priority, 3)]) : o = p := by
  simp only [List.mem_cons, Prod.mk.injEq, List.not_mem_nil, or_false] at ho hp
  rcases ho with ⟨rfl, rfl⟩ | ⟨rfl, rfl⟩ | ⟨rfl, rfl⟩ | ⟨rfl, rfl⟩ <;> exact (by simpa using hp : p = _).symm

theorem GroupLayout.inRange (h : GroupLayout b x) (hlegal : x.legal) :
    ¬ GroupOutOfRange b ∧ ¬ b 11 &&& b 12 ≠ 0 ∧ ¬ GroupCrossed b := by
  obtain ⟨-, -, -, -, -, hop, hopen, hclose, hcontributors, hquorum, hcount, hid, hbase, hwild⟩ := h
  obtain ⟨hopenMax, horder, hcloseMax, hcon1, hcon8, hq1, hqc, hn1, hn16, hset⟩ := hlegal
  have hcode : (b 1).toNat ≤ 3 := by
    simp only [List.mem_cons, Prod.mk.injEq, List.not_mem_nil, or_false] at hop
    omega
  have hidlt := x.outStream.isLt
  have h11 : (b 11).toNat < 8 := hbase ▸ x.dest.base.isLt
  have h12 : (b 12).toNat < 8 := hwild ▸ x.dest.wild.isLt
  refine ⟨?_, not_not_intro ((byte3_common h11).mp ?_), ?_⟩
  · unfold GroupOutOfRange
    omega
  · rw [BitVec.eq_of_toNat_eq ((byte3_toNat h11).trans hbase), BitVec.eq_of_toNat_eq ((byte3_toNat h12).trans hwild)]
    exact hset
  · unfold GroupCrossed
    omega

theorem GroupLayout.unique (hx : GroupLayout b x) (hy : GroupLayout b y) : x = y := by
  obtain ⟨h1, h2, h3, h4, h5, h6, h7, h8, h9, h10, h11, h12, h13, h14⟩ := hx
  obtain ⟨g1, g2, g3, g4, g5, g6, g7, g8, g9, g10, g11, g12, g13, g14⟩ := hy
  have mode : ∀ m n : GroupMode, decide (m = .oneShot) = decide (n = .oneShot) → m = n := by
    intro m n
    cases m <;> cases n <;> simp
  have fill : ∀ m n : Fill, decide (m = .hold) = decide (n = .hold) → m = n := by
    intro m n
    cases m <;> cases n <;> simp
  have short : ∀ m n : OnShort, decide (m = .mute) = decide (n = .mute) → m = n := by
    intro m n
    cases m <;> cases n <;> simp
  exact (GroupRec.mk.injEq ..).mpr ⟨h1.symm.trans g1, mode _ _ (h2.symm.trans g2), op_unique h6 g6, h7.symm.trans g7,
    h8.symm.trans g8, h9.symm.trans g9, h10.symm.trans g10, fill _ _ (h3.symm.trans g3), short _ _ (h4.symm.trans g4),
    h11.symm.trans g11, Fin.ext (h12.symm.trans g12), Dest.ext_toNat (h13.symm.trans g13) (h14.symm.trans g14),
    h5.symm.trans g5⟩

end

theorem decodeGroupRec_of_layout {c : Cell} {k : Nat} {x : GroupRec} (hlegal : x.legal)
    (h : GroupLayout (bytesAt c k) x) : decodeGroupRec c k = .ok x := by
  obtain ⟨hrange, hcommon, hcrossed⟩ := h.inRange hlegal
  obtain ⟨y, hy, -, hlayout⟩ := decodeGroupRec_ok hrange hcommon hcrossed
  rw [hy, h.unique hlayout]

/-! ### The Part record -/

section
variable {c : Cell} {k : Nat} {b : Nat → Byte} {x y : PartRec}

theorem partInRange_iff (b : Nat → Byte) :
    (decide (half (b 4) (b 5) < 1024) && decide (64 ≤ half (b 6) (b 7)) && decide (half (b 6) (b 7) ≤ 16383)
      && decide ((b 8).toNat ≤ 15) && decide ((b 9).toNat < 8) && decide ((b 10).toNat ≤ 63)
      && decide (half (b 11) (b 12) < 1024) && decide (16 ≤ half (b 13) (b 14)) && decide (1 ≤ half (b 15) (b 16))) = true ↔
    ¬ PartOutOfRange b := by
  simp only [Bool.and_eq_true, decide_eq_true_eq, PartOutOfRange]
  unfold half
  omega

theorem decodePartRec_badField (h : PartOutOfRange (bytesAt c k)) : decodePartRec c k = .error .badField := by
  unfold decodePartRec
  dsimp only
  rw [if_pos]
  rw [Bool.not_eq_true', ← Bool.not_eq_true]
  exact fun hin => (partInRange_iff (bytesAt c k)).mp hin h

theorem decodePartRec_ok (h : ¬ PartOutOfRange (bytesAt c k)) :
    ∃ x, decodePartRec c k = .ok x ∧ x.legal ∧ PartLayout (bytesAt c k) x := by
  have hok : ∃ x, decodePartRec c k = .ok x ∧ PartLayout (bytesAt c k) x := by
    unfold decodePartRec
    dsimp only
    rw [if_neg]
    · unfold PartOutOfRange at h
      have hid : (bytesAt c k 4 ++ bytesAt c k 5 : Half).toNat < 1024 := by omega
      have hport : (bytesAt c k 9).toNat < 8 := by omega
      have hsync : (bytesAt c k 11 ++ bytesAt c k 12 : Half).toNat < 1024 := by omega
      exact ⟨_, rfl, rfl, rfl, rfl, decide_ite (b := (bytesAt c k 3).getLsbD 0) nofun, (Nat.mod_eq_of_lt hid).symm, rfl, rfl, (Nat.mod_eq_of_lt hport).symm, rfl,
        (Nat.mod_eq_of_lt hsync).symm, rfl, rfl⟩
    · rw [Bool.not_eq_true', Bool.not_eq_false]
      exact (partInRange_iff (bytesAt c k)).mpr h
  obtain ⟨x, hx, hlayout⟩ := hok
  exact ⟨x, hx, decodePartRec_legal hx, hlayout⟩

theorem PartLayout.inRange (h : PartLayout b x) (hlegal : x.legal) : ¬ PartOutOfRange b := by
  obtain ⟨-, -, -, -, hid, hbase, hfraction, hport, htolerance, hsync, hlease, hresend⟩ := h
  obtain ⟨hb1, hb2, hf, ht, hl1, hl2, hr1, hr2⟩ := hlegal
  have := x.mgmtId.isLt
  have := x.timingPort.isLt
  have := x.syncId.isLt
  unfold PartOutOfRange
  omega

theorem PartLayout.unique (hx : PartLayout b x) (hy : PartLayout b y) : x = y := by
  obtain ⟨h1, h2, h3, h4, h5, h6, h7, h8, h9, h10, h11, h12⟩ := hx
  obtain ⟨g1, g2, g3, g4, g5, g6, g7, g8, g9, g10, g11, g12⟩ := hy
  have source : ∀ m n : Source, decide (m = .follow) = decide (n = .follow) → m = n := by
    intro m n
    cases m <;> cases n <;> simp
  exact (PartRec.mk.injEq ..).mpr ⟨Fin.ext (h5.symm.trans g5), h1.symm.trans g1, h2.symm.trans g2, h6.symm.trans g6,
    h7.symm.trans g7, source _ _ (h4.symm.trans g4), Fin.ext (h8.symm.trans g8), h9.symm.trans g9, h3.symm.trans g3,
    Fin.ext (h10.symm.trans g10), h11.symm.trans g11, h12.symm.trans g12⟩

theorem decodePartRec_of_layout (hlegal : x.legal) (h : PartLayout (bytesAt c k) x) : decodePartRec c k = .ok x := by
  obtain ⟨y, hy, -, hlayout⟩ := decodePartRec_ok (h.inRange hlegal)
  rw [hy, h.unique hlayout]

end

end Sys2Proof.Machine
end

section
/-!
The records as reads report them (R193).
-/

namespace Sys2Proof.Machine

/-! ### Flag bytes -/

theorem flag_bit (p : Prop) [Decidable p] (v : Byte) (i : Nat) :
    (if p then v else 0).getLsbD i = (decide p && v.getLsbD i) := by
  by_cases h : p
  · rw [if_pos h, decide_eq_true h, Bool.true_and]
  · rw [if_neg h, decide_eq_false h, Bool.false_and]
    exact BitVec.getLsbD_zero

theorem touchedBit_bit (m : Bool) (i : Nat) : (touchedBit m).getLsbD i = (m && (128#8).getLsbD i) := by
  rw [touchedBit, flag_bit]
  cases m <;> rfl

theorem dest_bytes (d : Dest) : ((d.base.setWidth 8 : Byte)).toNat = d.base.toNat ∧
    ((d.wild.setWidth 8 : Byte)).toNat = d.wild.toNat := by
  have hb := d.base.isLt
  have hw := d.wild.isLt
  rw [BitVec.toNat_setWidth, BitVec.toNat_setWidth]
  omega

/-! ### Layouts look at the bytes of the record alone -/

theorem StreamLayout.congr {b b' : Nat → Byte} {r : StreamRec} (h : StreamLayout b r) (hb : ∀ i, i < 10 → b' i = b i) :
    StreamLayout b' r := by
  unfold StreamLayout at *
  simpa only [hb 0 (by decide), hb 1 (by decide), hb 2 (by decide), hb 3 (by decide), hb 4 (by decide), hb 5 (by decide),
    hb 6 (by decide), hb 7 (by decide), hb 8 (by decide), hb 9 (by decide)] using h

theorem GroupLayout.congr {b b' : Nat → Byte} {r : GroupRec} (h : GroupLayout b r) (hb : ∀ i, i < 13 → b' i = b i) :
    GroupLayout b' r := by
  unfold GroupLayout at *
  simpa only [hb 0 (by decide), hb 1 (by decide), hb 2 (by decide), hb 3 (by decide), hb 4 (by decide), hb 5 (by decide),
    hb 6 (by decide), hb 7 (by decide), hb 8 (by decide), hb 9 (by decide), hb 10 (by decide), hb 11 (by decide),
    hb 12 (by decide)] using h

theorem PartLayout.congr {b b' : Nat → Byte} {r : PartRec} (h : PartLayout b r) (hb : ∀ i, i < 17 → b' i = b i) :
    PartLayout b' r := by
  unfold PartLayout at *
  simpa only [hb 0 (by decide), hb 1 (by decide), hb 2 (by decide), hb 3 (by decide), hb 4 (by decide), hb 5 (by decide),
    hb 6 (by decide), hb 7 (by decide), hb 8 (by decide), hb 9 (by decide), hb 10 (by decide), hb 11 (by decide),
    hb 12 (by decide), hb 13 (by decide), hb 14 (by decide), hb 15 (by decide), hb 16 (by decide)] using h

/-! ### Stream records -/

theorem destBytes_length (a : Action) : (destBytes a).length = 2 := by cases a <;> rfl
theorem feedBytes_length (a : Action) : (feedBytes a).length = 3 := by cases a <;> rfl

/-- The flags of a stream record as reported. -/
def streamFlags (r : StreamRec) (m : Bool) : Byte :=
  (if r.echo = .allow then 1 else 0) ||| (if r.seqCheck then 2 else 0) ||| (if r.rename.isSome then 4 else 0)
    ||| (if r.guard.isSome then 8 else 0) ||| touchedBit m

theorem streamFlags_bits (r : StreamRec) (m : Bool) : (streamFlags r m).getLsbD 0 = decide (r.echo = .allow) ∧
    (streamFlags r m).getLsbD 1 = r.seqCheck ∧ (streamFlags r m).getLsbD 2 = r.rename.isSome ∧
    (streamFlags r m).getLsbD 3 = r.guard.isSome ∧ (streamFlags r m).getLsbD 7 = m := by
  simp only [streamFlags, BitVec.getLsbD_or, flag_bit, touchedBit_bit]
  simp

theorem encodeStreamRec_places (r : StreamRec) (m : Bool) : let b := ((encodeStreamRec r m).getD · 0)
    b 0 = actionCode r.action ∧ b 1 = streamFlags r m ∧ HoldsAt b 2 (nat16 (r.rename.elim 0 (·.val))) ∧
    b 4 = nat8 (r.guard.elim 0 (·.val)) ∧ HoldsAt b 5 (destBytes r.action) ∧ HoldsAt b 7 (feedBytes r.action) := by
  intro b
  have h := holdsAt_self (encodeStreamRec r m)
  simp only [encodeStreamRec, holdsAt_append, holdsAt_cons, holdsAt_nil, List.length_append, List.length_cons,
    List.length_nil, nat16_length, destBytes_length, Nat.reduceAdd, and_true] at h
  obtain ⟨⟨⟨⟨⟨hcode, hflags⟩, hid⟩, hport⟩, hdest⟩, hfeed⟩ := h
  exact ⟨hcode, hflags, hid, hport, hdest, hfeed⟩

theorem encodeStreamRec_layout (r : StreamRec) (m : Bool) :
    StreamLayout ((encodeStreamRec r m).getD · 0) r ∧ AbsentFieldsReported ((encodeStreamRec r m).getD · 0) r ∧
    ((encodeStreamRec r m).getD 1 0).getLsbD 7 = m := by
  obtain ⟨hcode, hflags, hid, hport, hdest, hfeed⟩ := encodeStreamRec_places r m
  obtain ⟨hecho, hcheck, hrename, hguard, htouched⟩ := streamFlags_bits r m
  generalize hb : (fun i => (encodeStreamRec r m).getD i 0) = b at *
  have h1 : (encodeStreamRec r m).getD 1 0 = b 1 := congrFun hb 1
  have code : ∀ a : Action, r.action = a → b 0 = actionCode a := fun a ha => ha ▸ hcode
  have destIs : ∀ d, r.forwardsTo d → (b 5).toNat = d.base.toNat ∧ (b 6).toNat = d.wild.toNat := by
    intro d hd
    have hbytes : destBytes r.action = [d.base.setWidth 8, d.wild.setWidth 8] := by
      rcases hd with h | ⟨f, h⟩ <;> rw [h] <;> rfl
    rw [hbytes, holdsAt_cons, holdsAt_cons] at hdest
    exact ⟨(congrArg BitVec.toNat hdest.1).trans (dest_bytes d).1, (congrArg BitVec.toNat hdest.2.1).trans (dest_bytes d).2⟩
  have feedIs : ∀ f, r.feeds f → (b 7).toNat = f.group.val ∧ (b 8).toNat = f.slot.val ∧ (b 9).toNat = f.shift.val := by
    intro f hf
    have hbytes : feedBytes r.action = [nat8 f.group.val, nat8 f.slot.val, nat8 f.shift.val] := by
      rcases hf with h | ⟨d, h⟩ <;> rw [h] <;> rfl
    rw [hbytes, holdsAt_cons, holdsAt_cons, holdsAt_cons] at hfeed
    obtain ⟨hg, hs, hk, -⟩ := hfeed
    exact ⟨(congrArg BitVec.toNat hg).trans (nat8_toNat (by omega)),
      (congrArg BitVec.toNat hs).trans (nat8_toNat (by omega)), (congrArg BitVec.toNat hk).trans (nat8_toNat (by omega))⟩
  refine ⟨⟨code .drop, fun d => code (.forward d), fun f => code (.contribute f), fun d f => code (.both d f),
    by rw [hflags, hecho], by rw [hflags, hcheck], by rw [hflags, hrename], by rw [hflags, hguard], fun id hv => ?_,
    fun p hv => ?_, destIs, feedIs⟩, ⟨fun hv => ?_, fun hv => ?_, fun hnot => ?_, fun hnot => ?_⟩, ?_⟩
  · rw [hv] at hid
    exact holdsAt_nat16 (by have := id.isLt; exact Nat.lt_trans this (by decide)) hid
  · rw [hv] at hport
    exact (congrArg BitVec.toNat hport).trans (nat8_toNat (by have := p.isLt; exact Nat.lt_trans this (by decide)))
  · rw [hv] at hid
    exact ⟨hid 0 (by decide), hid 1 (by decide)⟩
  · rw [hv] at hport
    exact hport
  · have hbytes : destBytes r.action = [255, 255] := by
      cases ha : r.action with
      | forward d => exact absurd (.inl ha) (hnot d)
      | both d f => exact absurd (.inr ⟨f, ha⟩) (hnot d)
      | drop => rfl
      | contribute f => rfl
    rw [hbytes, holdsAt_cons, holdsAt_cons] at hdest
    exact ⟨hdest.1, hdest.2.1⟩
  · have hbytes : feedBytes r.action = [255, 255, 255] := by
      cases ha : r.action with
      | contribute f => exact absurd (.inl ha) (hnot f)
      | both d f => exact absurd (.inr ⟨d, ha⟩) (hnot f)
      | drop => rfl
      | forward d => rfl
    rw [hbytes, holdsAt_cons, holdsAt_cons, holdsAt_cons] at hfeed
    exact ⟨hfeed.1, hfeed.2.1, hfeed.2.2.1⟩
  · rw [h1, hflags, htouched]

/-! ### Group records and the Part record -/

/-- The flags of a group record as reported. -/
def groupFlags (r : GroupRec) (m : Bool) : Byte :=
  (if r.enabled then 1 else 0) ||| (if r.mode = .oneShot then 2 else 0) ||| (if r.fill = .hold then 4 else 0)
    ||| (if r.onShort = .mute then 8 else 0) ||| (if r.notifyShort then 16 else 0) ||| touchedBit m

theorem groupFlags_bits (r : GroupRec) (m : Bool) : (groupFlags r m).getLsbD 0 = r.enabled ∧
    (groupFlags r m).getLsbD 1 = decide (r.mode = .oneShot) ∧ (groupFlags r m).getLsbD 2 = decide (r.fill = .hold) ∧
    (groupFlags r m).getLsbD 3 = decide (r.onShort = .mute) ∧ (groupFlags r m).getLsbD 4 = r.notifyShort ∧
    (groupFlags r m).getLsbD 7 = m := by
  simp only [groupFlags, BitVec.getLsbD_or, flag_bit, touchedBit_bit]
  simp

theorem opCode_mem (o : CombineOp) : (o, (opCode o).toNat) ∈ [(CombineOp.sum, 0), (.max, 1), (.min, 2), (.priority, 3)] := by
  cases o <;> decide

theorem encodeGroupRec_layout {r : GroupRec} (hlegal : r.legal) (m : Bool) :
    GroupLayout ((encodeGroupRec r m).getD · 0) r ∧ ((encodeGroupRec r m).getD 0 0).getLsbD 7 = m := by
  have h := holdsAt_self (encodeGroupRec r m)
  have h0 : (encodeGroupRec r m).getD 0 0 = (fun i => (encodeGroupRec r m).getD i 0) 0 := rfl
  rw [h0]
  generalize (fun i => (encodeGroupRec r m).getD i 0) = b at *
  simp only [encodeGroupRec, holdsAt_append, holdsAt_cons, holdsAt_nil, List.length_append, List.length_cons,
    List.length_nil, nat16_length, Nat.reduceAdd, and_true] at h
  obtain ⟨⟨⟨⟨⟨⟨hflags, hop⟩, hopen⟩, hclose⟩, hcontributors, hquorum, hcount⟩, hid⟩, hbase, hwild⟩ := h
  change _ = groupFlags r m at hflags
  obtain ⟨hopenMax, horder, hcloseMax, hcon1, hcon8, hq1, hqc, hn1, hn16, -⟩ := hlegal
  obtain ⟨henabled, hmode, hfill, hshort, hnotify, htouched⟩ := groupFlags_bits r m
  have hidlt := r.outStream.isLt
  have small : ∀ {x : Byte} {n : Nat}, x = nat8 n → n < 256 → x.toNat = n := fun hx hn =>
    (congrArg BitVec.toNat hx).trans (nat8_toNat hn)
  refine ⟨⟨by rw [hflags, henabled], by rw [hflags, hmode], by rw [hflags, hfill], by rw [hflags, hshort],
    by rw [hflags, hnotify], by rw [hop]; exact opCode_mem r.op, holdsAt_nat16 (by omega) hopen,
    holdsAt_nat16 (by omega) hclose, small hcontributors (by omega), small hquorum (by omega), small hcount (by omega),
    holdsAt_nat16 (by omega) hid, (congrArg BitVec.toNat hbase).trans (dest_bytes r.dest).1,
    (congrArg BitVec.toNat hwild).trans (dest_bytes r.dest).2⟩, by rw [hflags, htouched]⟩

theorem encodePartRec_layout {r : PartRec} (hlegal : r.legal) (m : Bool) :
    PartLayout ((encodePartRec r m).getD · 0) r ∧ ((encodePartRec r m).getD 3 0).getLsbD 7 = m := by
  have h := holdsAt_self (encodePartRec r m)
  have h3 : (encodePartRec r m).getD 3 0 = (fun i => (encodePartRec r m).getD i 0) 3 := rfl
  rw [h3]
  generalize (fun i => (encodePartRec r m).getD i 0) = b at *
  simp only [encodePartRec, holdsAt_append, holdsAt_cons, holdsAt_nil, List.length_append, List.length_cons,
    List.length_nil, nat16_length, Nat.reduceAdd, and_true] at h
  obtain ⟨⟨⟨⟨⟨⟨⟨hmgmt, henable, hsyncOut, hflags⟩, hid⟩, hbase⟩, hfraction, hport, htolerance⟩, hsync⟩, hlease⟩,
    hresend⟩ := h
  obtain ⟨hb1, hb2, hf, ht, hl1, hl2, hr1, hr2⟩ := hlegal
  have hidlt := r.mgmtId.isLt
  have hportlt := r.timingPort.isLt
  have hsynclt := r.syncId.isLt
  have small : ∀ {x : Byte} {n : Nat}, x = nat8 n → n < 256 → x.toNat = n := fun hx hn =>
    (congrArg BitVec.toNat hx).trans (nat8_toNat hn)
  have hsource : (b 3).getLsbD 0 = decide (r.source = .follow) ∧ (b 3).getLsbD 7 = m := by
    rw [hflags]
    simp only [BitVec.getLsbD_or, flag_bit, touchedBit_bit]
    simp
  exact ⟨⟨hmgmt, henable, hsyncOut, hsource.1, holdsAt_nat16 (by omega) hid, holdsAt_nat16 (by omega) hbase,
    small hfraction (by omega), small hport (by omega), small htolerance (by omega), holdsAt_nat16 (by omega) hsync,
    holdsAt_nat16 (by omega) hlease, holdsAt_nat16 (by omega) hresend⟩, hsource.2⟩

/-- Settles O13. -/
theorem recordsDecodeAsEncoded : Obligations.RecordsDecodeAsEncoded := by
  refine ⟨fun r m => ?_, fun r m hlegal => ?_, fun r m hlegal => ?_⟩
  · obtain ⟨hlayout, habsent, htouched⟩ := encodeStreamRec_layout r m
    refine ⟨?_, hlayout, habsent, htouched, fun c k hlegal hbytes => decodeStreamRec_of_layout hlegal (hlayout.congr hbytes)⟩
    simp [encodeStreamRec, nat16_length, destBytes_length, feedBytes_length]
  · obtain ⟨hlayout, htouched⟩ := encodeGroupRec_layout hlegal m
    exact ⟨rfl, hlayout, htouched, fun c k hbytes => decodeGroupRec_of_layout hlegal (hlayout.congr hbytes)⟩
  · obtain ⟨hlayout, htouched⟩ := encodePartRec_layout hlegal m
    exact ⟨rfl, hlayout, htouched, fun c k hbytes => decodePartRec_of_layout hlegal (hlayout.congr hbytes)⟩

end Sys2Proof.Machine
end

section
/-!
SUPPORT. Requests taken by ME: which of the steps of R165 answers, and what an answer with an effect leaves. Then the
requests that have no effect of their own (R165, R173 to R176).
-/

namespace Sys2Proof.Machine

/-! ### The way of a taken request (R165) -/

/-- A request that passes is answered as steps 4 to 6 decide it in the accepted state. -/
theorem takeRequest_of_passes {s : State} {name : Option RequestName} {q : Request} {rest : List Request} {r : RespId}
    (body : Request → State → Answer) (htake : Takes s name q rest r) (hpass : Passes s q) :
    let a := decideRequest name body q (accepted q rest s)
    takeRequest name body s = answerWith r q a.status a.data a.state := by
  have hpass' : Passes (s.modMe (fun m => { m with requests := rest })) q := hpass
  rw [takeRequest_of_takes body htake, processRequest_of_passes r _ body hpass']
  rfl

theorem decideRequest_of_open {n : RequestName} (body : Request → State → Answer) (q : Request) (s : State)
    (hopen : reservedToHolder n = false) : decideRequest (some n) body q s = body q s := by
  rw [decideRequest, hopen]
  rfl

theorem decideRequest_of_stranger {n : RequestName} (body : Request → State → Answer) {q : Request} {s : State}
    (hreserved : reservedToHolder n = true) (hstranger : ¬ ByHolder s q) :
    decideRequest (some n) body q s = refuse .notOwner s := by
  have hfrom : fromHolder q s = false := Bool.eq_false_iff.mpr fun h => hstranger ((fromHolder_iff q s).mp h)
  rw [decideRequest, hreserved, hfrom]
  rfl

theorem byHolder_accepted (q : Request) (rest : List Request) (s : State) :
    ByHolder (accepted q rest s) q ↔ ByHolder s q := by
  simp [ByHolder, accepted]

/-- A request open to every controller is answered as its body decides. -/
theorem takeRequest_of_open {s : State} {n : RequestName} {q : Request} {rest : List Request} {r : RespId}
    (body : Request → State → Answer) (hopen : reservedToHolder n = false) (htake : Takes s (some n) q rest r)
    (hpass : Passes s q) :
    let a := body q (accepted q rest s)
    takeRequest (some n) body s = answerWith r q a.status a.data a.state := by
  rw [takeRequest_of_passes body htake hpass, decideRequest_of_open body q _ hopen]

/-! ### What an answer leaves -/

/-- Where the response of ME stands, for a state with the period, the ports, the slots and the Part record of another. -/
theorem responded_of_same {r : RespId} {q : Request} {code : Byte} {st : Status} {data : List Byte} {s u : State}
    (hpt : u.pt = s.pt) (hports : u.ports = s.ports) (hslots : u.me.slots = s.me.slots) (hpart : u.part = s.part) :
    Responded r q (responseFor s q code st data) s (respond r q code st data u) := by
  have hfor : responseFor u q code st data = responseFor s q code st data := by
    rw [responseFor, hpt, responseFor]
  exact hfor ▸ (responded_respond r q code st data u).congr hports.symm hslots.symm hpart.symm rfl rfl

theorem responded_answerWith {r : RespId} {q : Request} {st : Status} {data : List Byte} {s u : State}
    (hpt : u.pt = s.pt) (hports : u.ports = s.ports) (hslots : u.me.slots = s.me.slots) (hpart : u.part = s.part) :
    Responded r q (responseFor s q (requestCode q) st data) s (answerWith r q st data u) :=
  (responded_of_same hpt hports hslots hpart).congr rfl rfl rfl (by simp [answerWith]) (by simp [answerWith])

theorem accepted_part (q : Request) (rest : List Request) (s : State) : (accepted q rest s).part = s.part := by
  simp [State.part]

/-- A change of the banks that keeps the active Part record is all that its answer adds. -/
theorem answered_modBanks (q : Request) (rest : List Request) (r : RespId) (st : Status) (data : List Byte) (s : State)
    (f : Banks → Banks) (hpart : (f s.banks).active.part = s.banks.active.part) :
    let t := answerWith r q st data ((accepted q rest s).modBanks f)
    t.banks = f s.banks ∧ Answered q rest r st data s { t with banks := s.banks } := by
  rw [accepted_modBanks q rest s f hpart]
  refine ⟨by simp, ?_⟩
  exact (answered_accepted q rest r st data (s.modBanks f)).withBanks s.banks hpart.symm

/-- A change of the notices and of the RESETTING mark is all that its answer adds. -/
theorem answered_modMe (q : Request) (rest : List Request) (r : RespId) (st : Status) (data : List Byte) (s : State)
    (notices : List Notice) (resetting : Bool) :
    let t := answerWith r q st data
      ((accepted q rest s).modMe (fun m => { m with notices := notices, resetting := resetting }))
    t.me.notices = notices ∧ t.me.resetting = resetting ∧
      Answered q rest r st data s
        { t with me := { t.me with notices := s.me.notices, resetting := s.me.resetting } } := by
  have hclaim := accepted_claim q rest s
  refine ⟨by simp [answerWith], by simp [answerWith], ?_, ?_, ?_, ?_, ?_, ?_, ?_, ?_, rfl, rfl, ?_, ?_, ?_, ?_, ?_⟩
  case refine_12 =>
    simp [answerWith, updateCache_cache, accepted]
  case refine_13 =>
    exact (responded_answerWith (u := (accepted q rest s).modMe
      (fun m => { m with notices := notices, resetting := resetting })) (by simp [accepted]) (by simp [accepted])
      (by simp [accepted]) (accepted_part q rest s)).congr rfl rfl rfl rfl rfl
  case refine_11 => simpa [answerWith] using hclaim
  all_goals simp [answerWith, accepted]

/-- Where the mark stays, the notices alone are what the answer adds. -/
theorem answered_notices (q : Request) (rest : List Request) (r : RespId) (st : Status) (data : List Byte) (s : State)
    (notices : List Notice) :
    let t := answerWith r q st data ((accepted q rest s).modMe (fun m => { m with notices := notices }))
    t.me.notices = notices ∧ Answered q rest r st data s { t with me := { t.me with notices := s.me.notices } } := by
  obtain ⟨hnotices, hresetting, hanswered⟩ := answered_modMe q rest r st data s notices s.me.resetting
  have hsame : (accepted q rest s).modMe (fun m => { m with notices := notices, resetting := s.me.resetting }) =
      (accepted q rest s).modMe (fun m => { m with notices := notices }) := by
    simp [State.modMe, accepted]
  rw [hsame] at hnotices hresetting hanswered
  intro t
  have ht : t = answerWith r q st data ((accepted q rest s).modMe (fun m => { m with notices := notices })) := rfl
  rw [← ht] at hnotices hresetting hanswered
  clear_value t
  rw [← hresetting] at hanswered
  exact ⟨hnotices, hanswered⟩

/-- Where the notices stay, the RESETTING mark alone is what the answer adds. -/
theorem answered_resetting (q : Request) (rest : List Request) (r : RespId) (st : Status) (data : List Byte) (s : State)
    (resetting : Bool) :
    let t := answerWith r q st data ((accepted q rest s).modMe (fun m => { m with resetting := resetting }))
    t.me.resetting = resetting ∧
      Answered q rest r st data s { t with me := { t.me with resetting := s.me.resetting } } := by
  obtain ⟨hnotices, hresetting, hanswered⟩ := answered_modMe q rest r st data s s.me.notices resetting
  have hsame : (accepted q rest s).modMe (fun m => { m with notices := s.me.notices, resetting := resetting }) =
      (accepted q rest s).modMe (fun m => { m with resetting := resetting }) := by
    simp [State.modMe, accepted]
  rw [hsame] at hnotices hresetting hanswered
  intro t
  have ht : t = answerWith r q st data ((accepted q rest s).modMe (fun m => { m with resetting := resetting })) := rfl
  rw [← ht] at hnotices hresetting hanswered
  clear_value t
  rw [← hnotices] at hanswered
  exact ⟨hresetting, hanswered⟩

/-! ### The reads (R173, R175, R176) -/

/-- The ten requests open to every controller beside CLAIM run a body that leaves the state. -/
theorem exec_read {c : Instr × RequestName} (hc : c ∈ [(Instr.identify, RequestName.identify), (.readStatus, .readStatus),
      (.readStream, .readStream), (.readGroup, .readGroup), (.readPart, .readPart), (.readGroupState, .readGroupState),
      (.readPortCounters, .readPortCounters), (.readStreamCounters, .readStreamCounters),
      (.readGroupCounters, .readGroupCounters), (.readTiming, .readTiming)]) :
    ∃ body, reservedToHolder c.2 = false ∧ (∀ q s, (body q s).state = s) ∧
      ∀ s, exec c.1 s = .next (takeRequest (some c.2) body s) := by
  simp only [List.mem_cons, List.not_mem_nil, or_false] at hc
  rcases hc with rfl | rfl | rfl | rfl | rfl | rfl | rfl | rfl | rfl | rfl <;>
    exact ⟨_, rfl, fun q s => by simp, fun _ => rfl⟩

/-- A read is answered in the accepted state. -/
theorem takeRequest_read {s : State} {n : RequestName} {q : Request} {rest : List Request} {r : RespId}
    {body : Request → State → Answer} (hopen : reservedToHolder n = false) (hread : ∀ q s, (body q s).state = s)
    (htake : Takes s (some n) q rest r) (hpass : Passes s q) :
    takeRequest (some n) body s = answerWith r q (body q (accepted q rest s)).status (body q (accepted q rest s)).data
      (accepted q rest s) := by
  rw [takeRequest_of_open body hopen htake hpass, hread]

/-- Settles O50: a read's body leaves the state, so that its answer is all. -/
theorem readsChangeNothing : Obligations.ReadsChangeNothing := by
  intro s q rest r c hc htake hpass
  obtain ⟨body, hopen, hread, hexec⟩ := exec_read hc
  exact ⟨_, _, _, (hexec s).trans (congrArg _ (takeRequest_read hopen hread htake hpass)), answered_accepted q rest r _ _ s⟩

/-! ### CLAIM and RELEASE (R169, R170) -/

theorem claimBody_of_free {q : Request} {s : State} (h : s.me.claim.holder = none) :
    claimBody q s = done (s.modMe (fun m => { m with
      claim := ⟨some (controllerTag q), q.port, replyId q, s.part.leaseLen⟩
      cache := none
      notices := m.notices.map (fun n => { n with age := none }) })) := by
  rw [claimBody, h]

theorem claimBody_of_holder {q : Request} {s : State} (h : ByHolder s q) :
    claimBody q s = done (s.modMe (fun m => { m with claim := { m.claim with noticeId := replyId q } })) := by
  rw [claimBody, h]
  exact if_pos rfl

theorem claimBody_of_other {q : Request} {s : State} {tag : Half} (h : s.me.claim.holder = some tag)
    (hne : tag ≠ controllerTag q) : claimBody q s = ⟨.claimed, be16 tag, s⟩ := by
  rw [claimBody, h]
  exact if_neg hne

/-- Settles O54: the decision of CLAIM by the holder of the moment, and that of RELEASE, each answered in the state it
leaves. -/
theorem claimAndRelease : Obligations.ClaimAndRelease := by
  intro s q rest r hpass
  have hclaim := accepted_claim q rest s
  refine ⟨fun htake => ⟨fun hfree => ?_, fun hholder => ?_, fun tag hheld hother => ?_⟩, fun htake hholder => ?_⟩
  · have hexec : exec .claim s = .next (takeRequest (some .claim) claimBody s) := rfl
    have hfree' : (accepted q rest s).me.claim.holder = none := by simpa [accepted] using hfree
    refine ⟨_, hexec.trans (congrArg _ (takeRequest_of_open claimBody rfl htake hpass)), ?_⟩
    rw [claimBody_of_free hfree']
    refine ⟨?_, ?_, ?_, ?_, responded_answerWith ?_ ?_ ?_ (accepted_part q rest s)⟩ <;>
      simp [done, answerWith, accepted, updateCache_cache, State.part]
  · have hexec : exec .claim s = .next (takeRequest (some .claim) claimBody s) := rfl
    refine ⟨_, hexec.trans (congrArg _ (takeRequest_of_open claimBody rfl htake hpass)), ?_⟩
    have hheld : s.me.claim.holder = some (controllerTag q) := hholder
    rw [claimBody_of_holder ((byHolder_accepted q rest s).mpr hholder)]
    refine ⟨?_, ?_, ?_, ?_, responded_answerWith ?_ ?_ ?_ (accepted_part q rest s)⟩
    case refine_2 => simp [done, answerWith, hclaim]
    all_goals simp [done, answerWith, accepted, updateCache_cache, hheld]
  · have hexec : exec .claim s = .next (takeRequest (some .claim) claimBody s) := rfl
    have hheld' : (accepted q rest s).me.claim.holder = some tag := by simpa [accepted] using hheld
    refine ⟨_, be16 tag, hexec.trans (congrArg _ (takeRequest_of_open claimBody rfl htake hpass)), ?_, rfl, ?_⟩
    · rw [claimBody_of_other hheld' hother]
      exact answered_accepted q rest r .claimed (be16 tag) s
    · exact be16_join tag
  · have hexec : exec .release s = .next (takeRequest (some .release) releaseBody s) := rfl
    refine ⟨_, hexec.trans (congrArg _ (takeRequest_of_holder releaseBody htake hpass hholder)), ?_, ?_, ?_, ?_,
      responded_answerWith ?_ ?_ ?_ (accepted_part q rest s)⟩ <;>
      simp [releaseBody, done, answerWith, accepted, updateCache_cache]

end Sys2Proof.Machine
end

section
/-!
Requests that ME answers without executing them (R165, R174), and the requests to clear counters, to acknowledge notices
and to reset (R158, R178, R184, R186).
-/

namespace Sys2Proof.Machine

/-! ### Steps 1, 3, 4 and 5 of R165 -/

/-- A request that passes and whose decision is a refusal is answered without another effect. -/
theorem answered_refused {s : State} {name : Option RequestName} {q : Request} {rest : List Request} {r : RespId}
    {st : Status} (body : Request → State → Answer) (htake : Takes s name q rest r) (hpass : Passes s q)
    (hrefuse : decideRequest name body q (accepted q rest s) = refuse st (accepted q rest s)) :
    Answered q rest r st [] s (takeRequest name body s) := by
  rw [takeRequest_of_passes body htake hpass, hrefuse]
  exact answered_accepted q rest r st [] s

/-- A tag of 0 is answered BAD_FIELD before the claim is looked at. -/
theorem takeRequest_of_tag_zero {s : State} {name : Option RequestName} {q : Request} {rest : List Request} {r : RespId}
    (body : Request → State → Answer) (htake : Takes s name q rest r) (htag : controllerTag q = 0) :
    takeRequest name body s =
      respond r q (requestCode q) .badField [] (s.modMe (fun m => { m with requests := rest })) := by
  rw [takeRequest_of_takes body htake, processRequest, if_pos htag]

/-- A duplicate is answered from the cache. -/
theorem takeRequest_of_repeats {s : State} {name : Option RequestName} {q : Request} {rest : List Request} {r : RespId}
    {e : CacheEntry} (body : Request → State → Answer) (htake : Takes s name q rest r) (htag : controllerTag q ≠ 0)
    (hrepeats : Repeats s q e) :
    takeRequest name body s = respond r q e.code e.status e.data (accepted q rest s) := by
  obtain ⟨hholder, hcache, htransaction⟩ := hrepeats
  have hholder' : fromHolder q (s.modMe (fun m => { m with requests := rest })) = true := (fromHolder_iff q _).mpr hholder
  rw [takeRequest_of_takes body htake]
  rcases processRequest_cases r name body q (s.modMe (fun m => { m with requests := rest })) with
    ⟨hzero, -⟩ | ⟨-, e', -, hcache', -, hrespond⟩ | ⟨-, hnew, -⟩
  · exact absurd hzero htag
  · obtain rfl : e = e' := Option.some.inj (hcache.symm.trans hcache')
    exact hrespond
  · exact absurd htransaction (hnew e hholder' hcache)

/-- The requests reserved to the holder run as their names say. -/
theorem exec_reserved {c : Instr × RequestName} (hc : c ∈ [(Instr.release, RequestName.release),
      (.writeStream, .writeStream), (.writeGroup, .writeGroup), (.writePart, .writePart), (.commit, .commit),
      (.cancel, .cancel), (.clearCounters, .clearCounters), (.ackNotice, .ackNotice), (.reset, .reset)]) :
    reservedToHolder c.2 = true ∧ ∃ body, ∀ s, exec c.1 s = .next (takeRequest (some c.2) body s) := by
  simp only [List.mem_cons, List.not_mem_nil, or_false] at hc
  rcases hc with rfl | rfl | rfl | rfl | rfl | rfl | rfl | rfl | rfl <;> exact ⟨rfl, _, fun _ => rfl⟩

/-- Every request command takes the request of its row. -/
theorem exec_named {c : Instr × Option RequestName} (hc : c ∈ [(Instr.badRequest, none), (.identify, some .identify),
      (.claim, some .claim), (.release, some .release),
      (.readStatus, some .readStatus), (.readStream, some .readStream), (.readGroup, some .readGroup),
      (.readPart, some .readPart), (.readGroupState, some .readGroupState),
      (.readPortCounters, some .readPortCounters), (.readStreamCounters, some .readStreamCounters),
      (.readGroupCounters, some .readGroupCounters), (.readTiming, some .readTiming),
      (.writeStream, some .writeStream), (.writeGroup, some .writeGroup), (.writePart, some .writePart),
      (.commit, some .commit), (.cancel, some .cancel), (.clearCounters, some .clearCounters),
      (.ackNotice, some .ackNotice), (.reset, some .reset)]) :
    ∃ body, ∀ s, exec c.1 s = .next (takeRequest c.2 body s) := by
  simp only [List.mem_cons, List.not_mem_nil, or_false] at hc
  rcases hc with rfl | rfl | rfl | rfl | rfl | rfl | rfl | rfl | rfl | rfl | rfl | rfl | rfl | rfl | rfl | rfl | rfl |
    rfl | rfl | rfl | rfl <;> exact ⟨_, fun _ => rfl⟩

/-- Settles O60: the four answers that no body gives. -/
theorem requestsNotExecuted : Obligations.RequestsNotExecuted := by
  intro s q rest r
  refine ⟨fun htake hpass => ?_, fun c hc htake hpass hstranger => ?_, fun c hc htake => ?_⟩
  · exact ⟨_, rfl, answered_refused _ htake hpass rfl⟩
  · obtain ⟨hreserved, body, hexec⟩ := exec_reserved hc
    have hstranger' : ¬ ByHolder (accepted q rest s) q := fun h => hstranger ((byHolder_accepted q rest s).mp h)
    exact ⟨_, hexec s, answered_refused body htake hpass (decideRequest_of_stranger body hreserved hstranger')⟩
  · obtain ⟨body, hexec⟩ := exec_named hc
    refine ⟨fun htag => ⟨_, hexec s, ?_⟩, fun e htag hrepeats => ⟨_, hexec s, ?_⟩⟩
    · rw [takeRequest_of_tag_zero body htake htag]
      exact ⟨by simp, by simp, responded_of_same rfl rfl rfl rfl⟩
    · rw [takeRequest_of_repeats body htake htag hrepeats]
      refine ⟨by simp [accepted], by simpa using accepted_claim q rest s, responded_of_same ?_ ?_ ?_ ?_⟩ <;>
        simp [accepted, State.part]

/-! ### CLEAR_COUNTERS (R158, R178) -/

theorem accepted_eq (q : Request) (rest : List Request) (s : State) :
    accepted q rest s = s.modMe (fun m => { m with requests := rest, claim := renewed s q }) := by
  by_cases h : s.me.claim.holder = some (controllerTag q) <;>
    simp [accepted, renewClaim, renewed, fromHolder, h, State.modMe, State.part]

/-- The counters of the named elements are 0, and all else is as before. -/
structure CountersCleared (ports : Port → Prop) (streams : StreamId → Prop) (groups : GroupId → Prop) (timing : Prop)
    (s u : State) : Prop where
  frame : u = { s with ports := u.ports, streams := u.streams, groups := u.groups, tf := u.tf }
  port : ∀ p, (ports p → u.ports[p] = { s.ports[p] with counters := .zero }) ∧ (¬ ports p → u.ports[p] = s.ports[p])
  stream : ∀ i, (streams i → u.streams[i] = { s.streams[i] with counters := .zero }) ∧
    (¬ streams i → u.streams[i] = s.streams[i])
  group : ∀ g, (groups g → u.groups[g] = { s.groups[g] with counters := .zero }) ∧
    (¬ groups g → u.groups[g] = s.groups[g])
  tf : (timing → u.tf = { s.tf with
    miss := 0, silent := 0, syncInTol := 0, syncOutTol := 0, syncMissing := 0, steps := 0, numberSlip := 0 }) ∧
    (¬ timing → u.tf = s.tf)

theorem CountersCleared.congr {ports ports' : Port → Prop} {streams streams' : StreamId → Prop}
    {groups groups' : GroupId → Prop} {timing timing' : Prop} {s u : State}
    (h : CountersCleared ports streams groups timing s u) (hports : ∀ p, ports' p ↔ ports p)
    (hstreams : ∀ i, streams' i ↔ streams i) (hgroups : ∀ g, groups' g ↔ groups g) (htiming : timing' ↔ timing) :
    CountersCleared ports' streams' groups' timing' s u := by
  obtain rfl : ports' = ports := funext fun p => propext (hports p)
  obtain rfl : streams' = streams := funext fun i => propext (hstreams i)
  obtain rfl : groups' = groups := funext fun g => propext (hgroups g)
  obtain rfl : timing' = timing := propext htiming
  exact h

theorem countersCleared_none (s : State) :
    CountersCleared (fun _ => False) (fun _ => False) (fun _ => False) False s s where
  frame := rfl
  port _ := ⟨False.elim, fun _ => rfl⟩
  stream _ := ⟨False.elim, fun _ => rfl⟩
  group _ := ⟨False.elim, fun _ => rfl⟩
  tf := ⟨False.elim, fun _ => rfl⟩

theorem countersCleared_all (s : State) :
    CountersCleared (fun _ => True) (fun _ => True) (fun _ => True) True s (clearAll s) where
  frame := rfl
  port p := ⟨fun _ => ofFn_get _ p, fun h => absurd trivial h⟩
  stream i := ⟨fun _ => ofFn_get _ i, fun h => absurd trivial h⟩
  group g := ⟨fun _ => ofFn_get _ g, fun h => absurd trivial h⟩
  tf := ⟨fun _ => rfl, fun h => absurd trivial h⟩

theorem countersCleared_port (k : Port) (s : State) :
    CountersCleared (· = k) (fun _ => False) (fun _ => False) False s (clearPort k s) where
  frame := rfl
  port _ := ⟨fun h => h ▸ vecMod_self _ _ _, fun h => vecMod_ne _ _ (Ne.symm h)⟩
  stream _ := ⟨False.elim, fun _ => rfl⟩
  group _ := ⟨False.elim, fun _ => rfl⟩
  tf := ⟨False.elim, fun _ => rfl⟩

theorem countersCleared_stream (k : StreamId) (s : State) :
    CountersCleared (fun _ => False) (· = k) (fun _ => False) False s (clearStream k s) where
  frame := rfl
  port _ := ⟨False.elim, fun _ => rfl⟩
  stream _ := ⟨fun h => h ▸ vecMod_self _ _ _, fun h => vecMod_ne _ _ (Ne.symm h)⟩
  group _ := ⟨False.elim, fun _ => rfl⟩
  tf := ⟨False.elim, fun _ => rfl⟩

theorem countersCleared_group (k : GroupId) (s : State) :
    CountersCleared (fun _ => False) (fun _ => False) (· = k) False s (clearGroup k s) where
  frame := rfl
  port _ := ⟨False.elim, fun _ => rfl⟩
  stream _ := ⟨False.elim, fun _ => rfl⟩
  group _ := ⟨fun h => h ▸ vecMod_self _ _ _, fun h => vecMod_ne _ _ (Ne.symm h)⟩
  tf := ⟨False.elim, fun _ => rfl⟩
/-- The status of CLEAR_COUNTERS by its scope and its index (R178). -/
def clearStatus (scope i : Nat) : Status :=
  if 4 ≤ scope then .badField
  else if (scope = 1 ∧ 8 ≤ i) ∨ (scope = 2 ∧ 1024 ≤ i) ∨ (scope = 3 ∧ 64 ≤ i) then .badIndex else .ok

/-- What CLEAR_COUNTERS clears for a scope and an index (R178). -/
def ClearedBy (scope i : Nat) (s u : State) : Prop :=
  CountersCleared (fun p => clearStatus scope i = .ok ∧ (scope = 0 ∨ (scope = 1 ∧ i = p.val)))
    (fun j => clearStatus scope i = .ok ∧ (scope = 0 ∨ (scope = 2 ∧ i = j.val)))
    (fun g => clearStatus scope i = .ok ∧ (scope = 0 ∨ (scope = 3 ∧ i = g.val))) (scope = 0) s u

theorem clearedBy_refused {scope i : Nat} (s : State) (h0 : scope ≠ 0) (h : clearStatus scope i ≠ .ok) :
    ClearedBy scope i s s :=
  (countersCleared_none s).congr (fun _ => iff_false_intro fun hp => h hp.1) (fun _ => iff_false_intro fun hp => h hp.1)
    (fun _ => iff_false_intro fun hp => h hp.1) (iff_false_intro h0)

theorem clearStatus_badIndex {scope i : Nat} (h : (scope = 1 ∧ 8 ≤ i) ∨ (scope = 2 ∧ 1024 ≤ i) ∨ (scope = 3 ∧ 64 ≤ i)) :
    clearStatus scope i = .badIndex := by
  rw [clearStatus, if_neg (by omega), if_pos h]

theorem clearStatus_ok {scope i : Nat} (h : scope < 4)
    (hi : ¬ ((scope = 1 ∧ 8 ≤ i) ∨ (scope = 2 ∧ 1024 ≤ i) ∨ (scope = 3 ∧ 64 ≤ i))) : clearStatus scope i = .ok := by
  rw [clearStatus, if_neg (by omega), if_neg hi]

/-- CLEAR_COUNTERS by the cases of its scope and its index. -/
theorem clearCountersBody_clears (q : Request) (s : State) :
    let a := clearCountersBody q s
    a.status = clearStatus (argByte q 20) (argHalf q 21) ∧ a.data = [] ∧
      ClearedBy (argByte q 20) (argHalf q 21) s a.state := by
  intro a
  have ha : a = clearCountersBody q s := rfl
  unfold clearCountersBody at ha
  generalize argByte q 20 = scope at *
  generalize argHalf q 21 = i at *
  match scope with
  | 0 =>
    have hok : clearStatus 0 i = .ok := clearStatus_ok (by omega) (by omega)
    rw [ha]
    refine ⟨hok.symm, rfl, (countersCleared_all s).congr ?_ ?_ ?_ (iff_true_intro rfl)⟩ <;>
      exact fun _ => iff_true_intro ⟨hok, .inl rfl⟩
  | 1 =>
    rcases clearOne_cases i clearPort s with ⟨e, hi⟩ | ⟨k, rfl, e⟩ <;> rw [e] at ha <;> rw [ha]
    · have hbad : clearStatus 1 i = .badIndex := clearStatus_badIndex (by omega)
      exact ⟨hbad.symm, rfl, clearedBy_refused s (by decide) (by simp [hbad])⟩
    · have hok : clearStatus 1 k.val = .ok := clearStatus_ok (by omega) (by omega)
      refine ⟨hok.symm, rfl, (countersCleared_port k s).congr ?_ ?_ ?_ (by simp)⟩ <;>
        simp [hok, Fin.ext_iff, eq_comm (a := k.val)]
  | 2 =>
    rcases clearOne_cases i clearStream s with ⟨e, hi⟩ | ⟨k, rfl, e⟩ <;> rw [e] at ha <;> rw [ha]
    · have hbad : clearStatus 2 i = .badIndex := clearStatus_badIndex (by omega)
      exact ⟨hbad.symm, rfl, clearedBy_refused s (by decide) (by simp [hbad])⟩
    · have hok : clearStatus 2 k.val = .ok := clearStatus_ok (by omega) (by omega)
      refine ⟨hok.symm, rfl, (countersCleared_stream k s).congr ?_ ?_ ?_ (by simp)⟩ <;>
        simp [hok, Fin.ext_iff, eq_comm (a := k.val)]
  | 3 =>
    rcases clearOne_cases i clearGroup s with ⟨e, hi⟩ | ⟨k, rfl, e⟩ <;> rw [e] at ha <;> rw [ha]
    · have hbad : clearStatus 3 i = .badIndex := clearStatus_badIndex (by omega)
      exact ⟨hbad.symm, rfl, clearedBy_refused s (by decide) (by simp [hbad])⟩
    · have hok : clearStatus 3 k.val = .ok := clearStatus_ok (by omega) (by omega)
      refine ⟨hok.symm, rfl, (countersCleared_group k s).congr ?_ ?_ ?_ (by simp)⟩ <;>
        simp [hok, Fin.ext_iff, eq_comm (a := k.val)]
  | n + 4 =>
    have hbad : clearStatus (n + 4) i = .badField := if_pos (by omega)
    rw [ha]
    exact ⟨hbad.symm, rfl, clearedBy_refused s (by omega) (by simp [hbad])⟩

theorem clearOne_accepted {n : Nat} (i : Nat) {f : Fin n → State → State} (q : Request) (rest : List Request) (s : State)
    (hf : ∀ k, f k (accepted q rest s) = accepted q rest (f k s)) :
    clearOne i f (accepted q rest s) = { clearOne i f s with state := accepted q rest (clearOne i f s).state } := by
  unfold clearOne
  split
  · rfl
  · exact congrArg done (hf _)

/-- The counters can be cleared before the acceptance, which looks at none of them. -/
theorem clearCountersBody_accepted (q : Request) (rest : List Request) (s : State) :
    clearCountersBody q (accepted q rest s) =
      { clearCountersBody q s with state := accepted q rest (clearCountersBody q s).state } := by
  unfold clearCountersBody
  split
  · exact congrArg done (by rw [accepted_eq, accepted_eq]; rfl)
  · exact clearOne_accepted _ q rest s (fun k => by rw [accepted_eq, accepted_eq]; rfl)
  · exact clearOne_accepted _ q rest s (fun k => by rw [accepted_eq, accepted_eq]; rfl)
  · exact clearOne_accepted _ q rest s (fun k => by rw [accepted_eq, accepted_eq]; rfl)
  · rfl

/-! ### ACK_NOTICE (R184) -/

/-- The notices covered at the head are those before the first that is not. -/
theorem acknowledged_append {n : Half} {gone kept : List Notice} (hgone : ∀ x ∈ gone, (n - x.number).toNat < 32768)
    (hkept : ∀ x xs, kept = x :: xs → ¬ (n - x.number).toNat < 32768) : acknowledged n (gone ++ kept) = gone := by
  rw [acknowledged, List.takeWhile_append_of_pos (p := fun x : Notice => acknowledges n x.number)
    (fun x hx => decide_eq_true (hgone x hx))]
  cases kept with
  | nil => simp
  | cons x xs => rw [List.takeWhile_cons_of_neg (by simpa [acknowledges] using hkept x xs rfl), List.append_nil]

theorem ackNoticeBody_of_split {q : Request} {s : State} {gone kept : List Notice}
    (hsplit : s.me.notices = gone ++ kept)
    (hgone : ∀ x ∈ gone, (cellHalf q.cell 20 - x.number).toNat < 32768)
    (hkept : ∀ x xs, kept = x :: xs → ¬ (cellHalf q.cell 20 - x.number).toNat < 32768) :
    ackNoticeBody q s = ⟨.ok, [nat8 gone.length], s.modMe (fun m => { m with notices := kept })⟩ := by
  have hremoved := acknowledged_append hgone hkept
  have hbody : ackNoticeBody q s = ⟨.ok, [nat8 (acknowledged (cellHalf q.cell 20) s.me.notices).length],
      s.modMe (fun m => { m with notices := s.me.notices.drop (acknowledged (cellHalf q.cell 20) s.me.notices).length })⟩ :=
    rfl
  rw [hbody, hsplit, hremoved, List.drop_left]

/-- A record is one field's choice of two, when it is each under the condition's two values. -/
theorem eq_of_ite {α β : Type} {p : Prop} [Decidable p] {x : β} {f : α → β} {a b : α} (ha : p → x = f a)
    (hb : ¬ p → x = f b) : x = f (if p then a else b) := by
  by_cases h : p
  · rw [if_pos h, ha h]
  · rw [if_neg h, hb h]

/-- Settles O59: the body of each command in the accepted state. -/
theorem clearAcknowledgeReset : Obligations.ClearAcknowledgeReset := by
  intro s q rest r hpass hholder
  refine ⟨fun htake => ?_, fun htake gone kept hsplit hgone hkept => ?_, fun htake => ?_⟩
  · have hexec : exec .clearCounters s = .next (takeRequest (some .clearCounters) clearCountersBody s) := rfl
    obtain ⟨hstatus, hdata, hcleared⟩ := clearCountersBody_clears q s
    refine ⟨_, (clearCountersBody q s).state, hexec.trans (congrArg _ (takeRequest_of_holder _ htake hpass hholder)), ?_,
      hcleared.frame, fun p => ?_, fun j => ?_, fun g => ?_, hcleared.tf.1, hcleared.tf.2⟩
    · rw [clearCountersBody_accepted, hdata, hstatus]
      exact answered_accepted q rest r _ [] _
    · exact eq_of_ite (f := fun c => { s.ports[p] with counters := c }) (hcleared.port p).1 (hcleared.port p).2
    · exact eq_of_ite (f := fun c => { s.streams[j] with counters := c }) (hcleared.stream j).1 (hcleared.stream j).2
    · exact eq_of_ite (f := fun c => { s.groups[g] with counters := c }) (hcleared.group g).1 (hcleared.group g).2
  · have hexec : exec .ackNotice s = .next (takeRequest (some .ackNotice) ackNoticeBody s) := rfl
    have hsplit' : (accepted q rest s).me.notices = gone ++ kept := by simpa [accepted] using hsplit
    obtain ⟨hnotices, hanswered⟩ := answered_notices q rest r .ok [nat8 gone.length] s kept
    refine ⟨_, _, hexec.trans (congrArg _ (takeRequest_of_holder _ htake hpass hholder)), ?_, rfl, ?_⟩ <;>
      rw [ackNoticeBody_of_split hsplit' hgone hkept]
    exacts [hnotices, hanswered]
  · have hexec : exec .reset s = .next (takeRequest (some .reset) resetBody s) := rfl
    exact ⟨_, hexec.trans (congrArg _ (takeRequest_of_holder _ htake hpass hholder)),
      answered_resetting q rest r .ok [] s true⟩

end Sys2Proof.Machine
end

section
/-! The writes of the shadow bank (R114 to R117, R177, R193). -/

namespace Sys2Proof.Machine

/-! ### A holder's request whose body refuses, or changes the banks -/

section
variable {s : State} {q : Request} {rest : List Request} {r : RespId} {c : Instr} {n : RequestName}
  {body : Request → State → Answer}

theorem exec_refused_of_holder {st : Status} (hexec : exec c s = .next (takeRequest (some n) body s))
    (htake : Takes s (some n) q rest r) (hpass : Passes s q) (hholder : ByHolder s q)
    (hbody : body q (accepted q rest s) = refuse st (accepted q rest s)) :
    ∃ t, exec c s = .next t ∧ Answered q rest r st [] s t := by
  refine ⟨_, hexec, answered_refused body htake hpass ?_⟩
  rw [decideRequest_of_holder n body ((byHolder_accepted q rest s).mpr hholder), hbody]

theorem exec_changes_of_holder {f : Banks → Banks} (hexec : exec c s = .next (takeRequest (some n) body s))
    (htake : Takes s (some n) q rest r) (hpass : Passes s q) (hholder : ByHolder s q)
    (hbody : body q (accepted q rest s) = done ((accepted q rest s).modBanks f))
    (hpart : (f s.banks).active.part = s.banks.active.part) :
    ∃ t, exec c s = .next t ∧ t.banks = f s.banks ∧ Answered q rest r .ok [] s { t with banks := s.banks } := by
  refine ⟨_, hexec.trans (congrArg _ (takeRequest_of_holder body htake hpass hholder)), ?_⟩
  rw [hbody]
  exact answered_modBanks q rest r .ok [] s f hpart

end

/-! ### The bodies of the writes -/

section
variable {s : State} {q : Request} {st : Status}

theorem shadowClosed_of_idle (h : s.banks.state = .idle) : shadowClosed s = none := by rw [shadowClosed, h]
theorem shadowClosed_of_armed (h : s.banks.state = .armed) : shadowClosed s = some .shadowArmed := by rw [shadowClosed, h]
theorem shadowClosed_of_refresh (h : s.banks.state = .refresh) : shadowClosed s = some .shadowBusy := by
  rw [shadowClosed, h]

theorem shadowClosed_accepted (q : Request) (rest : List Request) (s : State) :
    shadowClosed (accepted q rest s) = shadowClosed s := by
  rw [shadowClosed, accepted_banks, shadowClosed]

theorem writeStreamRecord_closed (h : shadowClosed s = some st) : writeStreamRecord q s = refuse st s := by
  rw [writeStreamRecord, h]

theorem writeGroupRecord_closed (h : shadowClosed s = some st) : writeGroupRecord q s = refuse st s := by
  rw [writeGroupRecord, h]

theorem writePartRecord_closed (h : shadowClosed s = some st) : writePartRecord q s = refuse st s := by
  rw [writePartRecord, h]

theorem writeStreamRecord_badIndex (hopen : shadowClosed s = none) (h : 1024 ≤ argHalf q 20) :
    writeStreamRecord q s = refuse .badIndex s := by
  rw [writeStreamRecord, hopen, indexBelow_of_le h]

theorem writeGroupRecord_badIndex (hopen : shadowClosed s = none) (h : 64 ≤ argByte q 20) :
    writeGroupRecord q s = refuse .badIndex s := by
  rw [writeGroupRecord, hopen, indexBelow_of_le h]

theorem writeStreamRecord_error (hopen : shadowClosed s = none) (h : argHalf q 20 < 1024)
    (hdecode : decodeStreamRec q.cell 22 = .error st) : writeStreamRecord q s = refuse st s := by
  rw [writeStreamRecord, hopen, indexBelow_of_lt h, hdecode]

theorem writeGroupRecord_error (hopen : shadowClosed s = none) (h : argByte q 20 < 64)
    (hdecode : decodeGroupRec q.cell 21 = .error st) : writeGroupRecord q s = refuse st s := by
  rw [writeGroupRecord, hopen, indexBelow_of_lt h, hdecode]

theorem writePartRecord_error (hopen : shadowClosed s = none) (hdecode : decodePartRec q.cell 20 = .error st) :
    writePartRecord q s = refuse st s := by
  rw [writePartRecord, hopen, hdecode]

theorem indexBelow_eq {n k : Nat} {i : Fin n} (h : k = i.val) : indexBelow n k = some i := by
  rw [h, indexBelow_of_lt i.isLt]

theorem writeStreamRecord_stores {i : StreamId} {x : StreamRec} (hopen : shadowClosed s = none)
    (hi : argHalf q 20 = i.val) (hdecode : decodeStreamRec q.cell 22 = .ok x) :
    writeStreamRecord q s = done (s.modBanks (putStream i x)) := by
  rw [writeStreamRecord, hopen, indexBelow_eq hi, hdecode]

theorem writeGroupRecord_stores {g : GroupId} {x : GroupRec} (hopen : shadowClosed s = none)
    (hg : argByte q 20 = g.val) (hdecode : decodeGroupRec q.cell 21 = .ok x) :
    writeGroupRecord q s = done (s.modBanks (putGroup g x)) := by
  rw [writeGroupRecord, hopen, indexBelow_eq hg, hdecode]

theorem writePartRecord_stores {x : PartRec} (hopen : shadowClosed s = none)
    (hdecode : decodePartRec q.cell 20 = .ok x) : writePartRecord q s = done (s.modBanks (putPart x)) := by
  rw [writePartRecord, hopen, hdecode]

end

/-- Settles O55: the bytes that hold a record decode as it. -/
theorem writesStoreTheRecord : Obligations.WritesStoreTheRecord := by
  intro s q rest r hpass hholder hidle
  have hopen : shadowClosed (accepted q rest s) = none :=
    (shadowClosed_accepted q rest s).trans (shadowClosed_of_idle hidle)
  refine ⟨fun i x htake hi hlegal hlayout => ?_, fun g x htake hg hlegal hlayout => ?_, fun x htake hlegal hlayout => ?_⟩
  · exact exec_changes_of_holder rfl htake hpass hholder
      (writeStreamRecord_stores hopen hi (decodeStreamRec_of_layout hlegal hlayout)) rfl
  · exact exec_changes_of_holder rfl htake hpass hholder
      (writeGroupRecord_stores hopen hg (decodeGroupRec_of_layout hlegal hlayout)) rfl
  · exact exec_changes_of_holder rfl htake hpass hholder
      (writePartRecord_stores hopen (decodePartRec_of_layout hlegal hlayout)) rfl

/-! ### Refusals (R114) -/

/-- The three writes look at the state of the banks first. -/
theorem exec_write {c : Instr × RequestName} (hc : c ∈ [(Instr.writeStream, RequestName.writeStream),
      (.writeGroup, .writeGroup), (.writePart, .writePart)]) :
    ∃ body, (∀ s, exec c.1 s = .next (takeRequest (some c.2) body s)) ∧
      ∀ q s st, shadowClosed s = some st → body q s = refuse st s := by
  simp only [List.mem_cons, List.not_mem_nil, or_false] at hc
  rcases hc with rfl | rfl | rfl
  · exact ⟨writeStreamRecord, fun _ => rfl, fun _ _ _ => writeStreamRecord_closed⟩
  · exact ⟨writeGroupRecord, fun _ => rfl, fun _ _ _ => writeGroupRecord_closed⟩
  · exact ⟨writePartRecord, fun _ => rfl, fun _ _ _ => writePartRecord_closed⟩

/-- Settles O56: the rows of R114 in their order, the last three by the decoder's cases. -/
theorem writesAreRefused : Obligations.WritesAreRefused := by
  intro s q rest r hpass hholder
  refine ⟨fun c hc htake => ?_, fun hidle => ?_⟩
  · obtain ⟨body, hexec, hclosed⟩ := exec_write hc
    have hrefused (st : Status) (h : shadowClosed s = some st) :=
      exec_refused_of_holder (hexec s) htake hpass hholder
        (hclosed q _ st ((shadowClosed_accepted q rest s).trans h))
    exact ⟨fun h => hrefused _ (shadowClosed_of_armed h), fun h => hrefused _ (shadowClosed_of_refresh h)⟩
  have hopen : shadowClosed (accepted q rest s) = none :=
    (shadowClosed_accepted q rest s).trans (shadowClosed_of_idle hidle)
  refine ⟨fun htake hi => ?_, fun htake hg => ?_, fun htake hi => ?_, fun htake hg => ?_, fun htake => ?_⟩
  · exact exec_refused_of_holder rfl htake hpass hholder (writeStreamRecord_badIndex hopen hi)
  · exact exec_refused_of_holder rfl htake hpass hholder (writeGroupRecord_badIndex hopen hg)
  · have hrefused (st : Status) (h : decodeStreamRec q.cell 22 = .error st) :=
      exec_refused_of_holder (c := .writeStream) rfl htake hpass hholder (writeStreamRecord_error hopen hi h)
    refine ⟨fun hout => hrefused _ (decodeStreamRec_badField hout),
      fun hin hcommon => hrefused _ (decodeStreamRec_badSet hin hcommon), fun hin hcommon => ?_⟩
    obtain ⟨x, -, hx⟩ := decodeStreamRec_ok (c := q.cell) (k := 22) hin hcommon
    exact ⟨x, hx⟩
  · have hrefused (st : Status) (h : decodeGroupRec q.cell 21 = .error st) :=
      exec_refused_of_holder (c := .writeGroup) rfl htake hpass hholder (writeGroupRecord_error hopen hg h)
    refine ⟨fun hout => hrefused _ (decodeGroupRec_badField hout),
      fun hin hcommon => hrefused _ (decodeGroupRec_badSet hin hcommon),
      fun hin hcommon hcrossed => hrefused _ (decodeGroupRec_crossed hin hcommon hcrossed),
      fun hin hcommon hcrossed => ?_⟩
    obtain ⟨x, -, hx⟩ := decodeGroupRec_ok (c := q.cell) (k := 21) hin hcommon hcrossed
    exact ⟨x, hx⟩
  · have hrefused (st : Status) (h : decodePartRec q.cell 20 = .error st) :=
      exec_refused_of_holder (c := .writePart) rfl htake hpass hholder (writePartRecord_error hopen h)
    refine ⟨fun hout => hrefused _ (decodePartRec_badField hout), fun hin => ?_⟩
    obtain ⟨x, -, hx⟩ := decodePartRec_ok (c := q.cell) (k := 20) hin
    exact ⟨x, hx⟩

end Sys2Proof.Machine
end

section
/-! COMMIT: the five checks of R119 in their order, the lowest index that fails each, and what each answers (R118). -/

namespace Sys2Proof.Machine

/-! ### The lowest index -/

/-- `o` is the lowest index with the property, when there is one. -/
def Lowest {n : Nat} (P : Fin n → Prop) (o : Option Nat) : Prop :=
  (o = none ∧ ∀ i, ¬ P i) ∨ ∃ i : Fin n, o = some i.val ∧ P i ∧ ∀ j, j < i → ¬ P j

theorem Lowest.none_iff {n : Nat} {P : Fin n → Prop} {o : Option Nat} (h : Lowest P o) : o = none ↔ ∀ i, ¬ P i := by
  rcases h with ⟨rfl, hall⟩ | ⟨i, rfl, hi, -⟩
  · exact ⟨fun _ => hall, fun _ => rfl⟩
  · exact ⟨(nomatch ·), fun hall => absurd hi (hall i)⟩

theorem Lowest.eq_some {n : Nat} {P : Fin n → Prop} {o : Option Nat} (h : Lowest P o) {i : Fin n} (hi : P i)
    (hfirst : ∀ j, j < i → ¬ P j) : o = some i.val := by
  rcases h with ⟨-, hall⟩ | ⟨k, rfl, hk, hbelow⟩
  · exact absurd hi (hall i)
  · rcases lt_trichotomy i k with hlt | rfl | hgt
    · exact absurd hi (hbelow i hlt)
    · rfl
    · exact absurd hk (hfirst k hgt)

theorem lowest_findIdx? {α : Type} {n : Nat} (v : Vector α n) (p : α → Bool) :
    Lowest (fun i : Fin n => p v[i] = true) (v.toList.findIdx? p) := by
  cases hfind : v.toList.findIdx? p with
  | none =>
    refine .inl ⟨rfl, fun i => ?_⟩
    exact Bool.eq_false_iff.mp (List.findIdx?_eq_none_iff.mp hfind v[i] (by simp))
  | some k =>
    obtain ⟨hk, hp, hbelow⟩ := List.findIdx?_eq_some_iff_getElem.mp hfind
    refine .inr ⟨⟨k, by simpa using hk⟩, rfl, by simpa using hp, fun j hj => ?_⟩
    simpa using hbelow j.val hj

theorem Lowest.congr {n : Nat} {P Q : Fin n → Prop} {o : Option Nat} (h : Lowest P o) (hiff : ∀ i, Q i ↔ P i) :
    Lowest Q o := by
  obtain rfl : Q = P := funext fun i => propext (hiff i)
  exact h

/-! ### WINDOW, SLOT_RANGE -/

def ClosesLate (b : Bank) (g : GroupId) : Prop :=
  b.groups[g].enabled = true ∧ b.part.baseLen < b.groups[g].closeTick + b.part.margin + 1

def OutsideRange (b : Bank) (i : StreamId) : Prop := ∃ g k, b.streams[i].names g k ∧ b.groups[g].contributors ≤ k.val

def NamedBefore (b : Bank) (i : StreamId) : Prop :=
  ∃ (j : StreamId) (g : GroupId) (k : Slot), j < i ∧ b.streams[i].names g k ∧ b.streams[j].names g k

theorem lowest_failsWindow (b : Bank) : Lowest (ClosesLate b) (failsWindow b) := by
  refine (lowest_findIdx? b.groups _).congr fun g => ?_
  rw [Bool.not_eq_true', ← Bool.not_eq_true, windowFits_iff, Classical.not_imp, Nat.not_le]
  rfl

theorem feedOf_eq_some {r : StreamRec} {f : Feed} : feedOf r = some f ↔ r.feeds f := by
  unfold feedOf StreamRec.feeds
  cases r.action <;> simp

theorem lowest_failsSlotRange (b : Bank) : Lowest (OutsideRange b) (failsSlotRange b) := by
  refine (lowest_findIdx? b.streams _).congr fun i => ?_
  unfold OutsideRange slotInRange StreamRec.names
  simp only [← feedOf_eq_some]
  cases feedOf b.streams[i] with
  | none => simp
  | some f => simp

/-! ### SLOT_TAKEN -/

/-- The group and slot a stream record names. -/
def pairOf (r : StreamRec) : Option (GroupId × Slot) := (feedOf r).map (fun f => (f.group, f.slot))

theorem pairOf_eq_some {r : StreamRec} {g : GroupId} {k : Slot} : pairOf r = some (g, k) ↔ r.names g k := by
  simp [pairOf, StreamRec.names, feedOf_eq_some]

/-- The pair at place `n` is among those seen, or stands at a lower place. -/
def TakenAt (seen : List (GroupId × Slot)) (l : List (Option (GroupId × Slot))) (n : Nat) : Prop :=
  ∃ x, l[n]? = some (some x) ∧ (x ∈ seen ∨ some x ∈ l.take n)

theorem takenAt_zero {seen : List (GroupId × Slot)} {p : Option (GroupId × Slot)} {l : List (Option (GroupId × Slot))} :
    TakenAt seen (p :: l) 0 ↔ ∃ x, p = some x ∧ x ∈ seen := by
  simp [TakenAt]

theorem takenAt_succ {seen : List (GroupId × Slot)} {p : Option (GroupId × Slot)} {l : List (Option (GroupId × Slot))}
    {n : Nat} : TakenAt seen (p :: l) (n + 1) ↔ TakenAt (p.toList ++ seen) l n := by
  simp only [TakenAt, List.getElem?_cons_succ, List.take_succ_cons, List.mem_cons, List.mem_append, Option.mem_toList]
  refine exists_congr fun x => and_congr_right fun _ => ?_
  rw [or_left_comm, or_assoc, eq_comm (a := p), or_left_comm]

/-- `firstTaken` finds the lowest place from its start. -/
theorem firstTaken_lowest (l : List StreamRec) (start : Nat) (seen : List (GroupId × Slot)) :
    (firstTaken start seen l = none ∧ ∀ n, ¬ TakenAt seen (l.map pairOf) n) ∨
    ∃ n, firstTaken start seen l = some (start + n) ∧ TakenAt seen (l.map pairOf) n ∧
      ∀ m, m < n → ¬ TakenAt seen (l.map pairOf) m := by
  induction l generalizing start seen with
  | nil => exact .inl ⟨rfl, fun n => by simp [TakenAt]⟩
  | cons r l ih =>
    rw [List.map_cons]
    by_cases h0 : TakenAt seen (pairOf r :: l.map pairOf) 0
    · refine .inr ⟨0, ?_, h0, fun m hm => absurd hm (Nat.not_lt_zero m)⟩
      obtain ⟨x, hx, hseen⟩ := takenAt_zero.mp h0
      obtain ⟨f, hf, rfl⟩ := Option.map_eq_some_iff.mp hx
      rw [firstTaken, hf]
      exact if_pos hseen
    · have hskip : firstTaken start seen (r :: l) = firstTaken (start + 1) ((pairOf r).toList ++ seen) l := by
        rw [firstTaken]
        unfold pairOf at h0 ⊢
        cases hf : feedOf r with
        | none => rfl
        | some f => exact if_neg fun hseen => h0 (takenAt_zero.mpr ⟨_, by rw [hf]; rfl, hseen⟩)
      rw [hskip]
      rcases ih (start + 1) ((pairOf r).toList ++ seen) with ⟨hnone, hall⟩ | ⟨n, hsome, hn, hbelow⟩
      · refine .inl ⟨hnone, fun n => ?_⟩
        cases n with
        | zero => exact h0
        | succ n => exact fun h => hall n (takenAt_succ.mp h)
      · refine .inr ⟨n + 1, hsome.trans (congrArg some (by omega)), takenAt_succ.mpr hn, fun m hm => ?_⟩
        cases m with
        | zero => exact h0
        | succ m => exact fun h => hbelow m (Nat.lt_of_succ_lt_succ hm) (takenAt_succ.mp h)

/-- Among the records of a bank a pair is taken where a lower record names it. -/
theorem takenAt_iff (b : Bank) (i : StreamId) : TakenAt [] (b.streams.toList.map pairOf) i.val ↔ NamedBefore b i := by
  have hget (j : StreamId) : (b.streams.toList.map pairOf)[j.val]? = some (pairOf b.streams[j]) := by simp
  simp only [TakenAt, hget, Option.some.injEq, List.not_mem_nil, false_or, List.mem_take_iff_getElem]
  constructor
  · rintro ⟨⟨g, k⟩, hi, j, hj, hpair⟩
    have hj' : j < i.val := (Nat.lt_min.mp hj).1
    refine ⟨⟨j, hj'.trans i.isLt⟩, g, k, hj', pairOf_eq_some.mp hi, pairOf_eq_some.mp ?_⟩
    simpa using hpair
  · rintro ⟨j, g, k, hj, hi, hnames⟩
    exact ⟨(g, k), pairOf_eq_some.mpr hi, j.val, by simpa using hj, by simpa using pairOf_eq_some.mpr hnames⟩

theorem takenAt_lt {seen : List (GroupId × Slot)} {l : List (Option (GroupId × Slot))} {n : Nat} (h : TakenAt seen l n) :
    n < l.length := by
  obtain ⟨x, hx, -⟩ := h
  exact (List.getElem?_eq_some_iff.mp hx).1

theorem lowest_failsSlotTaken (b : Bank) : Lowest (NamedBefore b) (failsSlotTaken b) := by
  unfold failsSlotTaken
  rcases firstTaken_lowest b.streams.toList 0 [] with ⟨hnone, hall⟩ | ⟨n, hsome, hn, hbelow⟩
  · exact .inl ⟨hnone, fun i hi => hall i.val ((takenAt_iff b i).mpr hi)⟩
  · have hlt : n < 1024 := by simpa using takenAt_lt hn
    refine .inr ⟨⟨n, hlt⟩, by rw [hsome, Nat.zero_add], (takenAt_iff b ⟨n, hlt⟩).mp hn, fun j hj hnamed => ?_⟩
    exact hbelow j.val hj ((takenAt_iff b j).mpr hnamed)

/-! ### NO_MGMT_PORT, TIMING_PORT -/

theorem failsMgmtPort_iff (r : PartRec) :
    failsMgmtPort r = true ↔ ∀ p : Port, inPortList r.mgmtPorts p = true → inPortList r.portEnable p = false := by
  rw [failsMgmtPort, beq_iff_eq]
  constructor
  · intro h p hp
    have hbit : (r.mgmtPorts &&& r.portEnable).getLsbD p.val = false := by rw [h]; simp
    rw [BitVec.getLsbD_and, show r.mgmtPorts.getLsbD p.val = true from hp, Bool.true_and] at hbit
    exact hbit
  · intro h
    refine BitVec.eq_of_getLsbD_eq (fun i hi => ?_)
    rw [BitVec.getLsbD_and, show (0 : PortList).getLsbD i = false from BitVec.getLsbD_zero]
    cases hbit : r.mgmtPorts.getLsbD i with
    | false => rfl
    | true => exact h ⟨i, hi⟩ hbit

theorem failsTimingPort_iff (r : PartRec) :
    failsTimingPort r = false ↔ (r.source = .follow → inPortList r.portEnable r.timingPort = true) := by
  unfold failsTimingPort
  cases r.source <;> simp

/-! ### The order of the checks -/

section
variable {b : Bank}

theorem commitChecks_window {g : Nat} (h : failsWindow b = some g) : commitChecks b = some (.window, g) := by
  rw [commitChecks, h]

theorem commitChecks_slotRange {i : Nat} (hwindow : failsWindow b = none) (h : failsSlotRange b = some i) :
    commitChecks b = some (.slotRange, i) := by
  rw [commitChecks, hwindow, h]

theorem commitChecks_slotTaken {i : Nat} (hwindow : failsWindow b = none) (hrange : failsSlotRange b = none)
    (h : failsSlotTaken b = some i) : commitChecks b = some (.slotTaken, i) := by
  rw [commitChecks, hwindow, hrange, h]

theorem commitChecks_ports (hwindow : failsWindow b = none) (hrange : failsSlotRange b = none)
    (htaken : failsSlotTaken b = none) : commitChecks b =
      if failsMgmtPort b.part then some (.noMgmtPort, 0)
      else if failsTimingPort b.part then some (.timingPort, b.part.timingPort.val) else none := by
  rw [commitChecks, hwindow, hrange, htaken]

end

theorem windowsFit_iff (b : Bank) : b.windowsFit ↔ ∀ g, ¬ ClosesLate b g := by
  refine forall_congr' fun g => ?_
  rw [ClosesLate, not_and, Nat.not_lt]

theorem slotsInRange_iff (b : Bank) :
    (∀ (i : StreamId) g k, b.streams[i].names g k → k.val < b.groups[g].contributors) ↔ ∀ i, ¬ OutsideRange b i := by
  refine forall_congr' fun i => ?_
  simp only [OutsideRange, not_exists, not_and, Nat.not_le]

theorem slotsDistinct_iff (b : Bank) :
    (∀ (i j : StreamId) g k, b.streams[i].names g k → b.streams[j].names g k → i = j) ↔ ∀ i, ¬ NamedBefore b i := by
  constructor
  · rintro h i ⟨j, g, k, hlt, hi, hj⟩
    exact hlt.ne (h j i g k hj hi)
  · intro h i j g k hi hj
    rcases lt_trichotomy i j with hlt | rfl | hgt
    · exact absurd ⟨i, g, k, hlt, hj, hi⟩ (h j)
    · rfl
    · exact absurd ⟨j, g, k, hgt, hi, hj⟩ (h i)

theorem someMgmtPort_iff (r : PartRec) :
    (∃ p : Port, inPortList r.mgmtPorts p = true ∧ inPortList r.portEnable p = true) ↔ failsMgmtPort r = false := by
  rw [← Bool.not_eq_true, failsMgmtPort_iff]
  push Not
  simp only [Bool.not_eq_false]

/-- The five checks pass exactly for a consistent bank (R119). -/
theorem commitChecks_eq_none_iff (b : Bank) : commitChecks b = none ↔ b.consistent := by
  unfold Bank.consistent
  rw [windowsFit_iff, slotsInRange_iff, slotsDistinct_iff, someMgmtPort_iff, ← failsTimingPort_iff,
    ← (lowest_failsWindow b).none_iff, ← (lowest_failsSlotRange b).none_iff, ← (lowest_failsSlotTaken b).none_iff]
  cases hwindow : failsWindow b with
  | some g => simp [commitChecks_window hwindow]
  | none =>
  cases hrange : failsSlotRange b with
  | some i => simp [commitChecks_slotRange hwindow hrange]
  | none =>
  cases htaken : failsSlotTaken b with
  | some i => simp [commitChecks_slotTaken hwindow hrange htaken]
  | none =>
    rw [commitChecks_ports hwindow hrange htaken]
    cases failsMgmtPort b.part with
    | true => simp
    | false => simp

/-! ### COMMIT (R118) -/

section
variable {s : State}

theorem commitShadow_of_armed (h : s.banks.state = .armed) : commitShadow s = refuse .alreadyArmed s := by
  rw [commitShadow, h]

theorem commitShadow_of_refresh (h : s.banks.state = .refresh) : commitShadow s = refuse .shadowBusy s := by
  rw [commitShadow, h]

theorem commitShadow_of_passed (h : s.banks.state = .idle) (hchecks : commitChecks s.banks.shadow = none) :
    commitShadow s = done (s.modBanks (fun b => { b with state := .armed })) := by
  rw [commitShadow, h, hchecks]

theorem commitShadow_of_failed {reason : CheckReason} {i : Nat} (h : s.banks.state = .idle)
    (hchecks : commitChecks s.banks.shadow = some (reason, i)) :
    commitShadow s = ⟨.checkFailed, reasonCode reason :: nat16 i, s⟩ := by
  rw [commitShadow, h, hchecks]

end

/-- A number in two bytes is its quotient and its remainder by 256. -/
theorem nat16_eq (n : Nat) : nat16 n = [BitVec.ofNat 8 (n / 256), BitVec.ofNat 8 (n % 256)] := by
  refine congrArg₂ (fun x y => [x, y]) (BitVec.eq_of_toNat_eq ?_) (BitVec.eq_of_toNat_eq ?_) <;>
    simp [BitVec.extractLsb'_toNat, Nat.shiftRight_eq_div_pow]
  omega

/-- What the answer of a COMMIT that fails names: the first check that fails and the lowest index that fails it. -/
theorem commitChecks_first {b : Bank} {reason : CheckReason} {i : Nat} (h : commitChecks b = some (reason, i)) :
    (∀ g, ClosesLate b g → (∀ h, h < g → ¬ ClosesLate b h) → reason = .window ∧ i = g.val) ∧
    ((∀ g, ¬ ClosesLate b g) →
      (∀ j, OutsideRange b j → (∀ k, k < j → ¬ OutsideRange b k) → reason = .slotRange ∧ i = j.val) ∧
      ((∀ j, ¬ OutsideRange b j) →
        (∀ j, NamedBefore b j → (∀ k, k < j → ¬ NamedBefore b k) → reason = .slotTaken ∧ i = j.val) ∧
        ((∀ j, ¬ NamedBefore b j) →
          (failsMgmtPort b.part = true → reason = .noMgmtPort ∧ i = 0) ∧
          (failsMgmtPort b.part = false → reason = .timingPort ∧ i = b.part.timingPort.val)))) := by
  have names {reason' : CheckReason} {i' : Nat} (h' : commitChecks b = some (reason', i')) : reason = reason' ∧ i = i' := by
    simpa using h.symm.trans h'
  refine ⟨fun g hg hfirst => names (commitChecks_window ((lowest_failsWindow b).eq_some hg hfirst)), fun hwindow => ?_⟩
  have hwindow' := (lowest_failsWindow b).none_iff.mpr hwindow
  refine ⟨fun j hj hfirst => names (commitChecks_slotRange hwindow' ((lowest_failsSlotRange b).eq_some hj hfirst)),
    fun hrange => ?_⟩
  have hrange' := (lowest_failsSlotRange b).none_iff.mpr hrange
  refine ⟨fun j hj hfirst =>
    names (commitChecks_slotTaken hwindow' hrange' ((lowest_failsSlotTaken b).eq_some hj hfirst)), fun htaken => ?_⟩
  have hports := commitChecks_ports hwindow' hrange' ((lowest_failsSlotTaken b).none_iff.mpr htaken)
  refine ⟨fun hmgmt => names ?_, fun hmgmt => ?_⟩
  · rw [hports, hmgmt, if_pos rfl]
  · rw [hmgmt, if_neg Bool.false_ne_true] at hports
    split at hports
    · exact names hports
    · exact absurd (h.symm.trans hports) nofun

/-- Settles O57: the checks decide consistency, and the first that fails is the one named. -/
theorem commitChecksAndArms : Obligations.CommitChecksAndArms := by
  intro s q rest r hpass hholder htake
  have hbanks : (accepted q rest s).banks = s.banks := accepted_banks q rest s
  refine ⟨fun hidle hconsistent => ?_, fun hidle hnot => ?_, fun harmed => ?_, fun hrefresh => ?_⟩
  · have hchecks := (commitChecks_eq_none_iff s.banks.shadow).mpr hconsistent
    exact exec_changes_of_holder (f := fun b => { b with state := .armed }) rfl htake hpass hholder
      (commitShadow_of_passed (by rw [hbanks]; exact hidle) (by rw [hbanks]; exact hchecks)) rfl
  · obtain ⟨⟨reason, i⟩, hchecks⟩ := Option.ne_none_iff_exists'.mp
      (fun hnone => hnot ((commitChecks_eq_none_iff s.banks.shadow).mp hnone))
    have hexec : exec .commit s = .next (takeRequest (some .commit) (fun _ t => commitShadow t) s) := rfl
    have hbody := commitShadow_of_failed (s := accepted q rest s) (by rw [hbanks]; exact hidle)
      (by rw [hbanks]; exact hchecks)
    refine ⟨_, reasonCode reason, i, hexec.trans (congrArg _ (takeRequest_of_holder _ htake hpass hholder)), ?_, ?_⟩
    · rw [hbody, nat16_eq]
      exact answered_accepted q rest r .checkFailed _ s
    · have coded {x : CheckReason} {k : Nat} (h : reason = x ∧ i = k) : reasonCode reason = reasonCode x ∧ i = k :=
        h.imp_left (congrArg reasonCode)
      obtain ⟨hwindow, hafterWindow⟩ := commitChecks_first hchecks
      refine ⟨fun g hg hfirst => coded (hwindow g hg hfirst), fun hfits => ?_⟩
      obtain ⟨hrange, hafterRange⟩ := hafterWindow hfits
      refine ⟨fun j hj hfirst => coded (hrange j hj hfirst), fun hinside => ?_⟩
      obtain ⟨htaken, hafterTaken⟩ := hafterRange hinside
      refine ⟨fun j hj hfirst => coded (htaken j hj hfirst), fun hdistinct => ?_⟩
      obtain ⟨hmgmt, htiming⟩ := hafterTaken hdistinct
      exact ⟨fun hno => coded (hmgmt ((failsMgmtPort_iff _).mpr hno)),
        fun hsome => coded (htiming (Bool.eq_false_iff.mpr fun h => hsome ((failsMgmtPort_iff _).mp h)))⟩
  · exact exec_refused_of_holder rfl htake hpass hholder (commitShadow_of_armed (by rw [hbanks]; exact harmed))
  · exact exec_refused_of_holder rfl htake hpass hholder (commitShadow_of_refresh (by rw [hbanks]; exact hrefresh))

end Sys2Proof.Machine
end

section
/-! The reports of state and of counters, byte by byte (R57, R148, R158, R175, R176, R179, R192, R194, R195). -/

namespace Sys2Proof.Machine

/-! ### The response of a read -/

section
variable {s : State} {q : Request} {rest : List Request} {r : RespId} {c : Instr} {n : RequestName}
  {body : Request → State → Answer}

/-- A deliverable answer of a read stands in the slot. -/
theorem exec_read_answers {st : Status} {data : List Byte} (hexec : exec c s = .next (takeRequest (some n) body s))
    (hopen : reservedToHolder n = false) (htake : Takes s (some n) q rest r) (hpass : Passes s q)
    (hdeliver : Deliverable s q) (hbody : body q (accepted q rest s) = ⟨st, data, accepted q rest s⟩) :
    ∃ t, exec c s = .next t ∧ t.me.slots[r] = some (responseFor s q (requestCode q) st data) := by
  refine ⟨_, hexec.trans (congrArg _ (takeRequest_of_open body hopen htake hpass)), ?_⟩
  rw [hbody]
  obtain ⟨-, -, -, -, -, -, -, -, -, -, -, -, -, -, hresponded⟩ := answered_accepted q rest r st data s
  obtain ⟨-, hplaced, -⟩ := hresponded
  simp only [(hplaced hdeliver).1, Fin.getElem_fin, Vector.getElem_set_self]

theorem exec_read_refused {st : Status} (hexec : exec c s = .next (takeRequest (some n) body s))
    (hopen : reservedToHolder n = false) (htake : Takes s (some n) q rest r) (hpass : Passes s q)
    (hdeliver : Deliverable s q) (hbody : body q (accepted q rest s) = refuse st (accepted q rest s)) :
    ∃ t x, exec c s = .next t ∧ t.me.slots[r] = some x ∧ x.status = st ∧ x.data = [] := by
  obtain ⟨t, hnext, hslot⟩ := exec_read_answers hexec hopen htake hpass hdeliver hbody
  exact ⟨t, _, hnext, hslot, rfl, rfl⟩

/-- A report stands in the response cell from byte 18, with zeros behind it. -/
theorem exec_read_reports {data : List Byte} {m : Nat} (hexec : exec c s = .next (takeRequest (some n) body s))
    (hopen : reservedToHolder n = false) (htake : Takes s (some n) q rest r) (hpass : Passes s q)
    (hdeliver : Deliverable s q) (hbody : body q (accepted q rest s) = report data (accepted q rest s))
    (hlength : data.length = m) (hm : m ≤ 42) :
    ∃ t cell, exec c s = .next t ∧ (∃ x, t.me.slots[r] = some x ∧ x.status = .ok ∧ cell = responseCell x) ∧
      HoldsAt (cellByte cell) 18 data ∧ ∀ i, 18 + m ≤ i → i ≤ 59 → cellByte cell i = 0 := by
  subst hlength
  obtain ⟨t, hnext, hslot⟩ := exec_read_answers hexec hopen htake hpass hdeliver hbody
  obtain ⟨-, -, -, -, -, hdata, hzeros⟩ :=
    responseCell_layout (responseFor s q (requestCode q) .ok data) hm
  exact ⟨t, _, hnext, ⟨_, hslot, rfl, rfl⟩, hdata, hzeros⟩

end

/-! ### Fields in their places -/

theorem extract_append_high (x y : Half) : (x ++ y : BitVec 32).extractLsb' 16 16 = x := by
  refine BitVec.eq_of_getLsbD_eq (fun i hi => ?_)
  rw [BitVec.getLsbD_extractLsb', BitVec.getLsbD_append]
  simp [hi]

theorem extract_append_low (x y : Half) : (x ++ y : BitVec 32).extractLsb' 0 16 = y := by
  refine BitVec.eq_of_getLsbD_eq (fun i hi => ?_)
  rw [BitVec.getLsbD_extractLsb', BitVec.getLsbD_append]
  simp [hi]

/-- A number of four bytes is in its place when it reads back (R189). -/
theorem holdsAt_cellWord (c : Cell) (k : Nat) (y : BitVec 32) : HoldsAt (cellByte c) k (be32 y) ↔ cellWord c k = y := by
  refine ⟨holdsAt_be32, ?_⟩
  rintro rfl
  rw [be32_eq, holdsAt_append, holdsAt_be16, holdsAt_be16, cellWord, extract_append_high, extract_append_low]
  exact ⟨rfl, rfl⟩

theorem holdsAt_cellHalf (c : Cell) (k : Nat) (y : Half) : HoldsAt (cellByte c) k (be16 y) ↔ cellHalf c k = y :=
  holdsAt_be16 y

theorem holdsAt_cellNat (c : Cell) (k n : Nat) :
    HoldsAt (cellByte c) k (nat16 n) ↔ cellHalf c k = BitVec.ofNat 16 n := holdsAt_be16 _

theorem half_toNat {n : Nat} (h : n < 65536) : (BitVec.ofNat 16 n).toNat = n := by
  rw [BitVec.toNat_ofNat]
  exact Nat.mod_eq_of_lt h

theorem bankState_mem (x : BankState) : (x, (bankStateCode x).toNat) ∈ [(BankState.idle, 0), (.armed, 1), (.refresh, 2)] := by
  cases x <;> decide

theorem timing_mem (x : TimingState) :
    (x, (timingCode x).toNat) ∈ [(TimingState.free, 0), (.acquire, 1), (.locked, 2), (.holdover, 3)] := by
  cases x <;> decide

theorem accState_mem (x : AccState) :
    (x, (accStateCode x).toNat) ∈ [(AccState.off, 0), (.idle, 1), (.opened, 2), (.done, 3), (.spent, 4)] := by
  cases x <;> decide

theorem link_mem (x : Link) : (x, (linkCode x).toNat) ∈ [(Link.down, 0), (.training, 1), (.up, 2)] := by
  cases x <;> decide

/-! ### Sets and lists of slots -/

theorem slotBit (i : Slot) (j : Slot) : (BitVec.ofNat 8 (2 ^ i.val)).getLsbD j.val = decide (i = j) := by
  rw [BitVec.getLsbD_ofNat, Nat.testBit_two_pow, decide_eq_true j.isLt, Bool.true_and]
  exact decide_eq_decide.mpr Fin.ext_iff.symm

theorem foldl_slotBits (f : Slot → Bool) (j : Slot) (l : List Slot) (x : Byte) :
    (l.foldl (fun x i => x ||| (if f i then BitVec.ofNat 8 (2 ^ i.val) else 0)) x).getLsbD j.val =
      (x.getLsbD j.val || (f j && decide (j ∈ l))) := by
  induction l generalizing x with
  | nil => simp
  | cons i l ih =>
    rw [List.foldl_cons, ih, BitVec.getLsbD_or, flag_bit, slotBit]
    by_cases h : i = j
    · subst h
      cases f i <;> simp
    · simp [h, Ne.symm h]

theorem slotBits_bit (f : Slot → Bool) (j : Slot) : (slotBits f).getLsbD j.val = f j := by
  rw [slotBits, foldl_slotBits, decide_eq_true (mem_allSlots j)]
  simp

/-- The elements of a flattened list of equal lengths stand one after another. -/
theorem holdsAt_flatMap {α : Type} {b : Nat → Byte} {k m : Nat} {l : List α} {f : α → List Byte}
    (hm : ∀ x, (f x).length = m) (h : HoldsAt b k (l.flatMap f)) {i : Nat} (hi : i < l.length) :
    HoldsAt b (k + m * i) (f l[i]) := by
  induction l generalizing k i with
  | nil => exact absurd hi (Nat.not_lt_zero i)
  | cons x l ih =>
    rw [List.flatMap_cons, holdsAt_append, hm] at h
    cases i with
    | zero => exact h.1
    | succ i =>
      have hrest := ih h.2 (Nat.lt_of_succ_lt_succ hi)
      rwa [show k + m + m * i = k + m * (i + 1) by rw [Nat.mul_succ]; omega] at hrest

theorem allSlots_get (i : Slot) : allSlots[i.val]'i.isLt = i := by revert i; decide

end Sys2Proof.Machine
end

section
/-! The reports of IDENTIFY, READ_STATUS, READ_TIMING and READ_GROUP_STATE (R148, R175, R176, R194). -/

namespace Sys2Proof.Machine

/-! ### The bodies in the accepted state -/

section
variable (q : Request) (rest : List Request) (s : State)

theorem identifyBody_accepted : identifyBody q (accepted q rest s) =
    report (identifyBody q s).data (accepted q rest s) := by
  rw [accepted_eq]
  rfl

theorem readTimingBody_accepted : readTimingBody q (accepted q rest s) =
    report (readTimingBody q s).data (accepted q rest s) := by
  rw [accepted_eq]
  rfl

/-- The bytes of READ_STATUS; the claim is the renewed one. -/
def statusData (q : Request) (s : State) : List Byte :=
  [bankStateCode s.banks.state, timingCode s.tf.state] ++ nat16 s.pt.tick ++ be16 s.pt.period
    ++ nat16 (freeCount s) ++ [boolByte s.me.claim.holder.isSome] ++ be16 (s.me.claim.holder.getD 0)
    ++ nat16 (if s.me.claim.holder.isSome then (renewed s q).lease else 0)
    ++ [nat8 s.me.notices.length, boolByte s.me.overflow]

theorem renewed_holder : (renewed s q).holder = s.me.claim.holder := by
  rw [renewed]
  split <;> rfl

theorem readStatusBody_accepted : readStatusBody q (accepted q rest s) =
    report (statusData q s) (accepted q rest s) := by
  unfold readStatusBody statusData
  rw [accepted_claim, renewed_holder, accepted_eq]
  rfl

theorem readGroupStateBody_badIndex (h : 64 ≤ argByte q 20) :
    readGroupStateBody q s = refuse .badIndex s := by
  rw [readGroupStateBody, indexBelow_of_le h]

/-- The bytes of READ_GROUP_STATE. -/
def groupStateData (a : Accum) : List Byte :=
  [accStateCode a.state, slotBits (fun i => a.arrived[i].isSome), slotBits (fun i => a.holds[i].isSome), a.emission]
    ++ allSlots.flatMap (fun i => nat16 (a.arrived[i].getD 0))

theorem readGroupStateBody_accepted {g : GroupId} (h : argByte q 20 = g.val) :
    readGroupStateBody q (accepted q rest s) = report (groupStateData s.groups[g]) (accepted q rest s) := by
  rw [readGroupStateBody, indexBelow_eq h, accepted_eq]
  rfl

end

theorem freeCount_eq (s : State) : freeCount s = (s.pool.toList.filter (fun b => b.refs == 0)).length := by
  rw [freeCount, List.countP_eq_length_filter]
  rfl

theorem freeCount_lt (s : State) : freeCount s < 65536 := by
  have h : freeCount s ≤ s.pool.toList.length := List.countP_le_length
  rw [Vector.length_toList] at h
  omega

/-! ### Byte by byte -/

section
variable {c : Cell}

theorem identify_layout {s : State} {q : Request} (h : HoldsAt (cellByte c) 18 (identifyBody q s).data) :
    (cellHalf c 18).toNat = 2117 ∧ (cellHalf c 20).toNat = 6408 ∧ cellByte c 22 = 1 ∧ cellByte c 23 = 8 ∧
    (cellHalf c 24).toNat = 1024 ∧ cellByte c 26 = 64 ∧ (cellHalf c 27).toNat = 384 ∧
    (cellHalf c 29).toNat = s.part.mgmtId.val := by
  simp only [identifyBody, report, holdsAt_append, holdsAt_cons, holdsAt_nil, holdsAt_cellHalf, holdsAt_cellNat,
    List.length_append, List.length_cons, List.length_nil, nat16_length, be16_length, Nat.reduceAdd, and_true,
    and_assoc] at h
  obtain ⟨hvendor, hpart, hrevision, hports, hstreams, hgroups, hbuffers, hid⟩ := h
  refine ⟨by rw [hvendor]; rfl, by rw [hpart]; rfl, hrevision, hports, by rw [hstreams]; rfl, hgroups,
    by rw [hbuffers]; rfl, ?_⟩
  rw [hid]
  exact half_toNat (s.part.mgmtId.isLt.trans (by decide))

theorem status_layout {s : State} {q : Request} (h : HoldsAt (cellByte c) 18 (statusData q s)) :
    (s.banks.state, (cellByte c 18).toNat) ∈ [(BankState.idle, 0), (.armed, 1), (.refresh, 2)] ∧
    (s.tf.state, (cellByte c 19).toNat) ∈ [(TimingState.free, 0), (.acquire, 1), (.locked, 2), (.holdover, 3)] ∧
    cellHalf c 20 = BitVec.ofNat 16 s.pt.tick ∧ cellHalf c 22 = s.pt.period ∧
    (cellHalf c 24).toNat = (s.pool.toList.filter (fun b => b.refs == 0)).length ∧
    (∀ tag, s.me.claim.holder = some tag → cellByte c 26 = 1 ∧ cellHalf c 27 = tag ∧
      cellHalf c 29 = BitVec.ofNat 16 (renewed s q).lease) ∧
    (s.me.claim.holder = none → cellByte c 26 = 0 ∧ cellHalf c 27 = 0 ∧ cellHalf c 29 = 0) ∧
    cellByte c 31 = BitVec.ofNat 8 s.me.notices.length ∧ cellByte c 32 = (if s.me.overflow then 1 else 0) := by
  simp only [statusData, holdsAt_append, holdsAt_cons, holdsAt_nil, holdsAt_cellHalf, holdsAt_cellNat,
    List.length_append, List.length_cons, List.length_nil, nat16_length, be16_length, Nat.reduceAdd, and_true,
    and_assoc] at h
  obtain ⟨hbank, htiming, htick, hperiod, hfree, hheld, htag, hlease, hnotices, hover⟩ := h
  refine ⟨hbank ▸ bankState_mem _, htiming ▸ timing_mem _, htick, hperiod, ?_, fun tag hholder => ?_, fun hholder => ?_,
    hnotices, hover⟩
  · rw [hfree, half_toNat (freeCount_lt s), freeCount_eq]
  · rw [hholder] at hheld htag hlease
    exact ⟨hheld, htag, hlease⟩
  · rw [hholder] at hheld htag hlease
    exact ⟨hheld, htag, hlease⟩

theorem timing_layout {s : State} {q : Request} (h : HoldsAt (cellByte c) 18 (readTimingBody q s).data) :
    (s.tf.state, (cellByte c 18).toNat) ∈ [(TimingState.free, 0), (.acquire, 1), (.locked, 2), (.holdover, 3)] ∧
    (∀ d, s.tf.lastOffset = some d → cellByte c 19 = 1 ∧ cellHalf c 20 = BitVec.ofInt 16 d) ∧
    (s.tf.lastOffset = none → cellByte c 19 = 0 ∧ cellHalf c 20 = 0) ∧
    cellWord c 22 = s.tf.miss ∧ cellWord c 26 = s.tf.silent ∧ cellWord c 30 = s.tf.syncInTol ∧
    cellWord c 34 = s.tf.syncOutTol ∧ cellWord c 38 = s.tf.syncMissing ∧ cellWord c 42 = s.tf.steps ∧
    cellWord c 46 = s.tf.numberSlip := by
  simp only [readTimingBody, report, holdsAt_append, holdsAt_cons, holdsAt_nil, holdsAt_cellHalf, holdsAt_cellWord,
    List.length_append, List.length_cons, List.length_nil, be16_length, be32_length, Nat.reduceAdd, and_true,
    and_assoc] at h
  obtain ⟨hstate, hknown, hoffset, hwords⟩ := h
  refine ⟨hstate ▸ timing_mem _, fun d hd => ?_, fun hd => ?_, hwords⟩
  · rw [hd] at hknown hoffset
    exact ⟨hknown, hoffset⟩
  · rw [hd] at hknown hoffset
    exact ⟨hknown, hoffset⟩

theorem groupState_layout {a : Accum} (h : HoldsAt (cellByte c) 18 (groupStateData a)) :
    (a.state, (cellByte c 18).toNat) ∈ [(AccState.off, 0), (.idle, 1), (.opened, 2), (.done, 3), (.spent, 4)] ∧
    (∀ i : Slot, (cellByte c 19).getLsbD i.val = a.arrived[i].isSome ∧
      (cellByte c 20).getLsbD i.val = a.holds[i].isSome ∧
      cellHalf c (22 + 2 * i.val) = BitVec.ofNat 16 (a.arrived[i].getD 0)) ∧
    cellByte c 21 = a.emission := by
  rw [groupStateData, holdsAt_append] at h
  obtain ⟨hhead, hticks⟩ := h
  simp only [holdsAt_cons, holdsAt_nil, Nat.reduceAdd, and_true] at hhead
  obtain ⟨hstate, harrived, hholds, hemission⟩ := hhead
  refine ⟨hstate ▸ accState_mem _, fun i => ⟨?_, ?_, ?_⟩, hemission⟩
  · rw [harrived, slotBits_bit]
  · rw [hholds, slotBits_bit]
  · have htick := holdsAt_flatMap (fun _ => nat16_length _) hticks i.isLt
    rw [allSlots_get] at htick
    exact (holdsAt_cellNat _ _ _).mp htick

end

/-- Settles O51: the bytes of each body, in their places. -/
theorem reportsOfState : Obligations.ReportsOfState := by
  intro s q rest r hpass hdeliver
  refine ⟨fun htake => ?_, fun htake => ?_, fun htake => ?_, fun htake hindex => ?_, fun g htake hg => ?_⟩
  · obtain ⟨t, c, hnext, hcell, hdata, hzeros⟩ := exec_read_reports (c := .identify) (m := 13) rfl rfl htake hpass hdeliver
      (identifyBody_accepted q rest s) rfl (by decide)
    obtain ⟨hvendor, hpart, hrevision, hports, hstreams, hgroups, hbuffers, hid⟩ := identify_layout hdata
    exact ⟨t, c, hnext, hcell, hvendor, hpart, hrevision, hports, hstreams, hgroups, hbuffers, hid, hzeros⟩
  · obtain ⟨t, c, hnext, hcell, hdata, hzeros⟩ := exec_read_reports (c := .readStatus) (m := 15) rfl rfl htake hpass hdeliver
      (readStatusBody_accepted q rest s) rfl (by decide)
    obtain ⟨hbank, htiming, htick, hperiod, hfree, hheld, hunheld, hnotices, hover⟩ := status_layout hdata
    exact ⟨t, c, hnext, hcell, hbank, htiming, htick, hperiod, hfree, hheld, hunheld, hnotices, hover, hzeros⟩
  · obtain ⟨t, c, hnext, hcell, hdata, hzeros⟩ := exec_read_reports (c := .readTiming) (m := 32) rfl rfl htake hpass hdeliver
      (readTimingBody_accepted q rest s) rfl (by decide)
    obtain ⟨hstate, hknown, hunknown, hmiss, hsilent, hin, hout, hmissing, hsteps, hslip⟩ := timing_layout hdata
    exact ⟨t, c, hnext, hcell, hstate, hknown, hunknown, hmiss, hsilent, hin, hout, hmissing, hsteps, hslip, hzeros⟩
  · exact exec_read_refused rfl rfl htake hpass hdeliver (readGroupStateBody_badIndex q _ hindex)
  · obtain ⟨t, c, hnext, hcell, hdata, hzeros⟩ := exec_read_reports (c := .readGroupState) (m := 20) rfl rfl htake hpass
      hdeliver (readGroupStateBody_accepted q rest s hg) rfl (by decide)
    obtain ⟨hstate, hslots, hemission⟩ := groupState_layout hdata
    exact ⟨t, c, hnext, hcell, hstate, hslots, hemission, hzeros⟩

end Sys2Proof.Machine
end

section
/-! The reports of the three counter reads (R57, R158, R179, R192, R194, R195). -/

namespace Sys2Proof.Machine

/-! ### The bodies -/

section
variable {q : Request} {s : State}

theorem readGroupCountersBody_badIndex (h : 64 ≤ argByte q 20) : readGroupCountersBody q s = refuse .badIndex s := by
  rw [readGroupCountersBody, indexBelow_of_le h]

theorem readPortCountersBody_badField (h : 2 ≤ argByte q 21) : readPortCountersBody q s = refuse .badField s := by
  rw [readPortCountersBody, if_pos (show argByte q 21 > 1 from h)]

theorem readPortCountersBody_badIndex (hblock : argByte q 21 ≤ 1) (h : 8 ≤ argByte q 20) :
    readPortCountersBody q s = refuse .badIndex s := by
  rw [readPortCountersBody, if_neg (Nat.not_lt.mpr hblock), indexBelow_of_le h]

theorem readStreamCountersBody_badField (h : 2 ≤ argByte q 22) : readStreamCountersBody q s = refuse .badField s := by
  rw [readStreamCountersBody, if_pos (show argByte q 22 > 1 from h)]

theorem readStreamCountersBody_badIndex (hblock : argByte q 22 ≤ 1) (h : 1024 ≤ argHalf q 20) :
    readStreamCountersBody q s = refuse .badIndex s := by
  rw [readStreamCountersBody, if_neg (Nat.not_lt.mpr hblock), indexBelow_of_le h]

end

/-- The bytes of READ_GROUP_COUNTERS. -/
def groupCounterData (k : GroupCounters) : List Byte :=
  be32 k.emitted ++ be32 k.short ++ be32 k.suppressed ++ be32 k.lost ++ be32 k.cut ++ be32 k.filled ++ be32 k.noDest

/-- The bytes of READ_PORT_COUNTERS, block 0. -/
def portReceiveData (x : PortState) : List Byte :=
  [linkCode x.link, boolByte x.signal] ++ be32 x.counters.rxCells ++ be32 x.counters.rxCheck ++ be32 x.counters.rxFormat
    ++ be32 x.counters.mgmtDenied ++ be32 x.counters.mgmtDrop

/-- The bytes of READ_PORT_COUNTERS, block 1. -/
def portSendData (x : PortState) : List Byte :=
  [linkCode x.link, boolByte x.signal] ++ [nat8 x.control.length, nat8 x.data.length] ++ be32 x.counters.txCells
    ++ be32 x.counters.egressDrop ++ be32 x.counters.egressFlush ++ be32 x.counters.syncSkip ++ be32 x.counters.rspDrop
    ++ be32 x.counters.linkDowns

/-- The bytes of READ_STREAM_COUNTERS, block 0. -/
def streamLookupData (x : StreamState) : List Byte :=
  [boolByte x.lastSeq.isSome, x.lastSeq.getD 0] ++ be32 x.counters.accepted ++ be32 x.counters.dropped
    ++ be32 x.counters.guard ++ be32 x.counters.repeated ++ be32 x.counters.gap ++ be32 x.counters.kind
    ++ be32 x.counters.noDest ++ be32 x.counters.poolDrop

/-- The bytes of READ_STREAM_COUNTERS, block 1. -/
def streamContributionData (x : StreamState) : List Byte :=
  [boolByte x.lastSeq.isSome, x.lastSeq.getD 0] ++ be32 x.counters.early ++ be32 x.counters.late
    ++ be32 x.counters.duplicate ++ be32 x.counters.size ++ be32 x.counters.groupOff

section
variable {q : Request} (rest : List Request) (s : State)

theorem readGroupCountersBody_accepted {g : GroupId} (h : argByte q 20 = g.val) :
    readGroupCountersBody q (accepted q rest s) =
      report (groupCounterData s.groups[g].counters) (accepted q rest s) := by
  rw [readGroupCountersBody, indexBelow_eq h, accepted_eq]
  rfl

theorem readPortCountersBody_receive {p : Port} (h : argByte q 20 = p.val) (hblock : argByte q 21 = 0) :
    readPortCountersBody q (accepted q rest s) = report (portReceiveData s.ports[p]) (accepted q rest s) := by
  rw [readPortCountersBody, indexBelow_eq h, hblock, accepted_eq]
  rfl

theorem readPortCountersBody_send {p : Port} (h : argByte q 20 = p.val) (hblock : argByte q 21 = 1) :
    readPortCountersBody q (accepted q rest s) = report (portSendData s.ports[p]) (accepted q rest s) := by
  rw [readPortCountersBody, indexBelow_eq h, hblock, accepted_eq]
  rfl

theorem readStreamCountersBody_lookup {i : StreamId} (h : argHalf q 20 = i.val) (hblock : argByte q 22 = 0) :
    readStreamCountersBody q (accepted q rest s) = report (streamLookupData s.streams[i]) (accepted q rest s) := by
  rw [readStreamCountersBody, indexBelow_eq h, hblock, accepted_eq]
  rfl

theorem readStreamCountersBody_contribution {i : StreamId} (h : argHalf q 20 = i.val) (hblock : argByte q 22 = 1) :
    readStreamCountersBody q (accepted q rest s) = report (streamContributionData s.streams[i]) (accepted q rest s) := by
  rw [readStreamCountersBody, indexBelow_eq h, hblock, accepted_eq]
  rfl

end

/-! ### Byte by byte -/

section
variable {c : Cell}

theorem groupCounters_layout {k : GroupCounters} (h : HoldsAt (cellByte c) 18 (groupCounterData k)) :
    cellWord c 18 = k.emitted ∧ cellWord c 22 = k.short ∧ cellWord c 26 = k.suppressed ∧ cellWord c 30 = k.lost ∧
    cellWord c 34 = k.cut ∧ cellWord c 38 = k.filled ∧ cellWord c 42 = k.noDest := by
  simpa only [groupCounterData, holdsAt_append, holdsAt_cellWord, List.length_append, be32_length, Nat.reduceAdd,
    and_assoc] using h

theorem portReceive_layout {x : PortState} (h : HoldsAt (cellByte c) 18 (portReceiveData x)) :
    cellByte c 18 = linkCode x.link ∧ cellByte c 19 = boolByte x.signal ∧
    cellWord c 20 = x.counters.rxCells ∧ cellWord c 24 = x.counters.rxCheck ∧ cellWord c 28 = x.counters.rxFormat ∧
    cellWord c 32 = x.counters.mgmtDenied ∧ cellWord c 36 = x.counters.mgmtDrop := by
  simpa only [portReceiveData, holdsAt_append, holdsAt_cons, holdsAt_nil, holdsAt_cellWord, List.length_append,
    List.length_cons, List.length_nil, be32_length, Nat.reduceAdd, and_assoc, true_and] using h

theorem portSend_layout {x : PortState} (h : HoldsAt (cellByte c) 18 (portSendData x)) :
    cellByte c 18 = linkCode x.link ∧ cellByte c 19 = boolByte x.signal ∧
    cellByte c 20 = nat8 x.control.length ∧ cellByte c 21 = nat8 x.data.length ∧
    cellWord c 22 = x.counters.txCells ∧ cellWord c 26 = x.counters.egressDrop ∧
    cellWord c 30 = x.counters.egressFlush ∧ cellWord c 34 = x.counters.syncSkip ∧ cellWord c 38 = x.counters.rspDrop ∧
    cellWord c 42 = x.counters.linkDowns := by
  simpa only [portSendData, holdsAt_append, holdsAt_cons, holdsAt_nil, holdsAt_cellWord, List.length_append,
    List.length_cons, List.length_nil, be32_length, Nat.reduceAdd, and_assoc, true_and] using h

theorem streamLookup_layout {x : StreamState} (h : HoldsAt (cellByte c) 18 (streamLookupData x)) :
    (cellByte c 18 = boolByte x.lastSeq.isSome ∧ cellByte c 19 = x.lastSeq.getD 0) ∧
    cellWord c 20 = x.counters.accepted ∧ cellWord c 24 = x.counters.dropped ∧ cellWord c 28 = x.counters.guard ∧
    cellWord c 32 = x.counters.repeated ∧ cellWord c 36 = x.counters.gap ∧ cellWord c 40 = x.counters.kind ∧
    cellWord c 44 = x.counters.noDest ∧ cellWord c 48 = x.counters.poolDrop := by
  simpa only [streamLookupData, holdsAt_append, holdsAt_cons, holdsAt_nil, holdsAt_cellWord, List.length_append,
    List.length_cons, List.length_nil, be32_length, Nat.reduceAdd, and_assoc, true_and] using h

theorem streamContribution_layout {x : StreamState} (h : HoldsAt (cellByte c) 18 (streamContributionData x)) :
    (cellByte c 18 = boolByte x.lastSeq.isSome ∧ cellByte c 19 = x.lastSeq.getD 0) ∧
    cellWord c 20 = x.counters.early ∧ cellWord c 24 = x.counters.late ∧ cellWord c 28 = x.counters.duplicate ∧
    cellWord c 32 = x.counters.size ∧ cellWord c 36 = x.counters.groupOff := by
  simpa only [streamContributionData, holdsAt_append, holdsAt_cons, holdsAt_nil, holdsAt_cellWord, List.length_append,
    List.length_cons, List.length_nil, be32_length, Nat.reduceAdd, and_assoc, true_and] using h

/-- The last sequence as the two bytes report it. -/
theorem lastSeq_layout {x : StreamState} (h : cellByte c 18 = boolByte x.lastSeq.isSome ∧ cellByte c 19 = x.lastSeq.getD 0) :
    (∀ n, x.lastSeq = some n → cellByte c 18 = 1 ∧ cellByte c 19 = n) ∧
    (x.lastSeq = none → cellByte c 18 = 0 ∧ cellByte c 19 = 0) := by
  refine ⟨fun n hn => ?_, fun hn => ?_⟩ <;> rw [hn] at h <;> exact h

end

/-- Settles O52: the refusals in their order, and the bytes of each block in their places. -/
theorem reportsOfCounters : Obligations.ReportsOfCounters := by
  intro s q rest r hpass hdeliver
  refine ⟨fun htake => ⟨fun hindex => ?_, fun g hg => ?_⟩,
    fun htake => ⟨fun hblock => ?_, fun hblock hindex => ?_, fun p hp hblock => ?_⟩,
    fun htake => ⟨fun hblock => ?_, fun hblock hindex => ?_, fun i hi hblock => ?_⟩⟩
  · exact exec_read_refused rfl rfl htake hpass hdeliver (readGroupCountersBody_badIndex hindex)
  · obtain ⟨t, c, hnext, hcell, hdata, hzeros⟩ := exec_read_reports (c := .readGroupCounters) (m := 28) rfl rfl htake hpass
      hdeliver (readGroupCountersBody_accepted rest s hg) rfl (by decide)
    obtain ⟨hemitted, hshort, hsuppressed, hlost, hcut, hfilled, hnoDest⟩ := groupCounters_layout hdata
    exact ⟨t, c, hnext, hcell, hemitted, hshort, hsuppressed, hlost, hcut, hfilled, hnoDest, hzeros⟩
  · exact exec_read_refused rfl rfl htake hpass hdeliver (readPortCountersBody_badField hblock)
  · exact exec_read_refused rfl rfl htake hpass hdeliver (readPortCountersBody_badIndex hblock hindex)
  · rcases Nat.le_one_iff_eq_zero_or_eq_one.mp hblock with hzero | hone
    · obtain ⟨t, c, hnext, hcell, hdata, hzeros⟩ := exec_read_reports (c := .readPortCounters) (m := 22) rfl rfl htake hpass
        hdeliver (readPortCountersBody_receive rest s hp hzero) rfl (by decide)
      obtain ⟨hlink, hsignal, hcells, hcheck, hformat, hdenied, hdrop⟩ := portReceive_layout hdata
      exact ⟨t, c, hnext, hcell, hlink ▸ link_mem _, hsignal,
        fun _ => ⟨hcells, hcheck, hformat, hdenied, hdrop, hzeros⟩, fun h => absurd (hzero.symm.trans h) (by decide)⟩
    · obtain ⟨t, c, hnext, hcell, hdata, hzeros⟩ := exec_read_reports (c := .readPortCounters) (m := 28) rfl rfl htake hpass
        hdeliver (readPortCountersBody_send rest s hp hone) rfl (by decide)
      obtain ⟨hlink, hsignal, hcontrol, hqueue, hcells, hdrop, hflush, hskip, hrsp, hdowns⟩ := portSend_layout hdata
      exact ⟨t, c, hnext, hcell, hlink ▸ link_mem _, hsignal, fun h => absurd (hone.symm.trans h) (by decide),
        fun _ => ⟨hcontrol, hqueue, hcells, hdrop, hflush, hskip, hrsp, hdowns, hzeros⟩⟩
  · exact exec_read_refused rfl rfl htake hpass hdeliver (readStreamCountersBody_badField hblock)
  · exact exec_read_refused rfl rfl htake hpass hdeliver (readStreamCountersBody_badIndex hblock hindex)
  · rcases Nat.le_one_iff_eq_zero_or_eq_one.mp hblock with hzero | hone
    · obtain ⟨t, c, hnext, hcell, hdata, hzeros⟩ := exec_read_reports (c := .readStreamCounters) (m := 34) rfl rfl htake
        hpass hdeliver (readStreamCountersBody_lookup rest s hi hzero) rfl (by decide)
      obtain ⟨hseq, haccepted, hdropped, hguard, hrepeated, hgap, hkind, hnoDest, hpool⟩ := streamLookup_layout hdata
      obtain ⟨hknown, hunknown⟩ := lastSeq_layout hseq
      exact ⟨t, c, hnext, hcell, hknown, hunknown,
        fun _ => ⟨haccepted, hdropped, hguard, hrepeated, hgap, hkind, hnoDest, hpool, hzeros⟩,
        fun h => absurd (hzero.symm.trans h) (by decide)⟩
    · obtain ⟨t, c, hnext, hcell, hdata, hzeros⟩ := exec_read_reports (c := .readStreamCounters) (m := 22) rfl rfl htake
        hpass hdeliver (readStreamCountersBody_contribution rest s hi hone) rfl (by decide)
      obtain ⟨hseq, hearly, hlate, hduplicate, hsize, hoff⟩ := streamContribution_layout hdata
      obtain ⟨hknown, hunknown⟩ := lastSeq_layout hseq
      exact ⟨t, c, hnext, hcell, hknown, hunknown, fun h => absurd (hone.symm.trans h) (by decide),
        fun _ => ⟨hearly, hlate, hduplicate, hsize, hoff, hzeros⟩⟩

end Sys2Proof.Machine
end

section
/-! The reports of READ_STREAM, READ_GROUP and READ_PART (R129, R179, R193). -/

namespace Sys2Proof.Machine

/-! ### The bank that a read names -/

/-- The records of the bank with code 0, and else those of the shadow. -/
def namedBank (code : Nat) (b : Banks) : Bank := if code = 0 then b.active else b.shadow

theorem bankOf_of_two_le {code : Nat} (h : 2 ≤ code) (s : State) : bankOf code s = none := by
  match code with
  | n + 2 => rfl

theorem bankOf_of_le_one {code : Nat} (h : code ≤ 1) (s : State) :
    bankOf code s = some (namedBank code s.banks, code == 1) := by
  rcases Nat.le_one_iff_eq_zero_or_eq_one.mp h with rfl | rfl <;> rfl

/-! ### Slices of a list of records -/

theorem slice_flatMap {α : Type} {l : List α} {f : α → List Byte} {m : Nat} (hm : ∀ x ∈ l, (f x).length = m) :
    (l.flatMap f).length = m * l.length ∧
    ∀ i (hi : i < l.length), ((l.flatMap f).drop (m * i)).take m = f l[i] := by
  induction l with
  | nil => exact ⟨rfl, fun i hi => absurd hi (Nat.not_lt_zero i)⟩
  | cons x l ih =>
    have hx : (f x).length = m := hm x List.mem_cons_self
    obtain ⟨hlength, hslices⟩ := ih (fun y hy => hm y (List.mem_cons_of_mem x hy))
    rw [List.flatMap_cons]
    refine ⟨by rw [List.length_append, hx, hlength, List.length_cons, Nat.mul_succ, Nat.add_comm], fun i hi => ?_⟩
    cases i with
    | zero => exact List.take_left' hx
    | succ i =>
      rw [Nat.mul_succ, Nat.add_comm, ← List.drop_drop, List.drop_left' hx]
      exact hslices i (Nat.lt_of_succ_lt_succ hi)

/-- The records `first`, `first + 1`, … reported one after another. -/
theorem slice_records {N m first count : Nat} {f : Nat → List Byte} {g : Fin N → List Byte} (hfit : first + count ≤ N)
    (hf : ∀ (k : Nat) (i : Fin N), k = i.val → f k = g i) (hg : ∀ i, (g i).length = m) :
    let data := (List.range count).flatMap (fun k => f (first + k))
    data.length = m * count ∧
    ∀ (k : Nat) (i : Fin N), k < count → i.val = first + k → (data.drop (m * k)).take m = g i := by
  intro data
  have hrecord : ∀ k ∈ List.range count, (f (first + k)).length = m := by
    intro k hk
    have hlt : first + k < N := (Nat.add_lt_add_left (List.mem_range.mp hk) first).trans_le hfit
    rw [hf (first + k) ⟨first + k, hlt⟩ rfl, hg]
  obtain ⟨hlength, hslices⟩ := slice_flatMap hrecord
  rw [List.length_range] at hlength
  refine ⟨hlength, fun k i hk hi => ?_⟩
  have hslice := hslices k (by rwa [List.length_range])
  rw [List.getElem_range] at hslice
  exact hslice.trans (hf _ i hi.symm)

/-! ### The bodies -/

section
variable {q : Request} {s : State}

theorem readStreams_badField (h : 2 ≤ argByte q 20 ∨ argByte q 21 = 0 ∨ 5 ≤ argByte q 21) :
    readStreams q s = refuse .badField s := by
  unfold readStreams
  rcases Nat.lt_or_ge (argByte q 20) 2 with hbank | hbank
  · rw [bankOf_of_le_one (Nat.le_of_lt_succ hbank)]
    exact if_pos (by omega)
  · rw [bankOf_of_two_le hbank]

theorem readStreams_of_count (hbank : argByte q 20 ≤ 1) (hlow : 1 ≤ argByte q 21) (hhigh : argByte q 21 ≤ 4) :
    readStreams q s = if argHalf q 22 + argByte q 21 > 1024 then refuse .badIndex s
      else report ((List.range (argByte q 21)).flatMap
        (fun k => reportStream s (namedBank (argByte q 20) s.banks, argByte q 20 == 1) (argHalf q 22 + k))) s := by
  rw [readStreams, bankOf_of_le_one hbank]
  exact if_neg (by omega)

theorem readGroups_badField (h : 2 ≤ argByte q 20 ∨ argByte q 21 = 0 ∨ 3 ≤ argByte q 21) :
    readGroups q s = refuse .badField s := by
  unfold readGroups
  rcases Nat.lt_or_ge (argByte q 20) 2 with hbank | hbank
  · rw [bankOf_of_le_one (Nat.le_of_lt_succ hbank)]
    exact if_pos (by omega)
  · rw [bankOf_of_two_le hbank]

theorem readGroups_of_count (hbank : argByte q 20 ≤ 1) (hlow : 1 ≤ argByte q 21) (hhigh : argByte q 21 ≤ 2) :
    readGroups q s = if argByte q 22 + argByte q 21 > 64 then refuse .badIndex s
      else report ((List.range (argByte q 21)).flatMap
        (fun k => reportGroup s (namedBank (argByte q 20) s.banks, argByte q 20 == 1) (argByte q 22 + k))) s := by
  rw [readGroups, bankOf_of_le_one hbank]
  exact if_neg (by omega)

theorem readPartRecord_badField (h : 2 ≤ argByte q 20) : readPartRecord q s = refuse .badField s := by
  rw [readPartRecord, bankOf_of_two_le h]

theorem readPartRecord_of_bank (h : argByte q 20 ≤ 1) : readPartRecord q s =
    report (encodePartRec (namedBank (argByte q 20) s.banks).part (argByte q 20 == 1 && s.banks.touchedPart)) s := by
  rw [readPartRecord, bankOf_of_le_one h]

end

theorem encodeStreamRec_length (r : StreamRec) (m : Bool) : (encodeStreamRec r m).length = 10 := by
  simp [encodeStreamRec, nat16_length, destBytes_length, feedBytes_length]

theorem encodeGroupRec_length (r : GroupRec) (m : Bool) : (encodeGroupRec r m).length = 13 := rfl

theorem reportStream_eq {s : State} {banks : Banks} (hbanks : s.banks = banks) (b : Bank) (shadow : Bool) (k : Nat)
    (i : StreamId) (h : k = i.val) :
    reportStream s (b, shadow) k = encodeStreamRec b.streams[i] (shadow && banks.touchedStreams[i]) := by
  rw [reportStream, indexBelow_eq h, ← hbanks]

theorem reportGroup_eq {s : State} {banks : Banks} (hbanks : s.banks = banks) (b : Bank) (shadow : Bool) (k : Nat)
    (g : GroupId) (h : k = g.val) :
    reportGroup s (b, shadow) k = encodeGroupRec b.groups[g] (shadow && banks.touchedGroups[g]) := by
  rw [reportGroup, indexBelow_eq h, ← hbanks]

/-- Settles O53: the refusals in their order, and the slices of the reported list. -/
theorem reportsOfRecords : Obligations.ReportsOfRecords := by
  intro s q rest r hpass hdeliver
  have hbanks : (accepted q rest s).banks = s.banks := accepted_banks q rest s
  refine ⟨fun htake => ⟨fun hbad => ?_, fun hbank hlow hhigh hover => ?_, fun hbank hlow hhigh hfit => ?_⟩,
    fun htake => ⟨fun hbad => ?_, fun hbank hlow hhigh hover => ?_, fun hbank hlow hhigh hfit => ?_⟩,
    fun htake => ⟨fun hbad => ?_, fun hbank => ?_⟩⟩
  · exact exec_read_refused rfl rfl htake hpass hdeliver (readStreams_badField hbad)
  · exact exec_read_refused rfl rfl htake hpass hdeliver ((readStreams_of_count hbank hlow hhigh).trans (if_pos hover))
  · obtain ⟨t, hnext, hslot⟩ := exec_read_answers (c := .readStream) rfl rfl htake hpass hdeliver
      ((readStreams_of_count hbank hlow hhigh).trans (if_neg (Nat.not_lt.mpr hfit)))
    refine ⟨t, _, hnext, hslot, rfl, ?_⟩
    rw [hbanks]
    exact slice_records hfit (reportStream_eq hbanks _ _) (fun _ => encodeStreamRec_length _ _)
  · exact exec_read_refused rfl rfl htake hpass hdeliver (readGroups_badField hbad)
  · exact exec_read_refused rfl rfl htake hpass hdeliver ((readGroups_of_count hbank hlow hhigh).trans (if_pos hover))
  · obtain ⟨t, hnext, hslot⟩ := exec_read_answers (c := .readGroup) rfl rfl htake hpass hdeliver
      ((readGroups_of_count hbank hlow hhigh).trans (if_neg (Nat.not_lt.mpr hfit)))
    refine ⟨t, _, hnext, hslot, rfl, ?_⟩
    rw [hbanks]
    exact slice_records hfit (reportGroup_eq hbanks _ _) (fun _ => encodeGroupRec_length _ _)
  · exact exec_read_refused rfl rfl htake hpass hdeliver (readPartRecord_badField hbad)
  · obtain ⟨t, hnext, hslot⟩ := exec_read_answers (c := .readPart) rfl rfl htake hpass hdeliver
      (readPartRecord_of_bank hbank)
    refine ⟨t, _, hnext, hslot, rfl, ?_⟩
    rw [hbanks]
    rfl

end Sys2Proof.Machine
end
